-- ==== Sys2Proof/Word.lean ====
section
/-! DEFINITION. The plain types the block handles: bytes of the bus, pin identifiers, durations. -/

namespace Sys2Proof

/-- A byte of the data bus; bit `k` travels on line `Dk` (spec/00_scope.md R12, spec/20_memory.md R74). -/
abbrev Byte := BitVec 8

/-- A pin identifier: an opaque name that the external capability accepts or not
(spec/20_memory.md R83). DESIGN CHOICE: numbers stand for the names (log 10). -/
abbrev Pin := Nat

/-- A duration in milliseconds. No resolution is assumed (spec/10_state.md R43,
spec/91_not_in_source.md N26). DESIGN CHOICE: a rational number (log 11). -/
abbrev Duration := Rat

end Sys2Proof
end

