-- ==== Sys2Proof/Config.lean ====
section
/-! DEFINITION. The parameters of the block (spec/00_scope.md R11), and the free values the spec leaves to the environment. -/

namespace Sys2Proof

/-- What a pin is configured as: the three capabilities of spec/20_memory.md R71 to R73. -/
inductive LineKind where
  | output | input | analog
  deriving DecidableEq, Repr

/-- The pull option of an input line (spec/20_memory.md R72, spec/30_encoding.md R125). -/
inductive Pull where
  | noPull | pullUp | pullDown
  deriving DecidableEq, Repr

/-- Whether NEW_LINE writes `cursor_position` (spec/41_lcd_cursor.md R167). -/
inductive NewlineCpMode where
  | unchanged | advance
  deriving DecidableEq, Repr

/-- The initial `last_value` of a potentiometer (spec/10_state.md R46): sampled at POT_INIT, or
the value `none` (constructor `noValue`). -/
inductive PotInitMode where
  | sample | noValue
  deriving DecidableEq, Repr

/-- What `pin_ok` answers for a pin that the parameters do not list: yes, no, or a free answer. -/
inductive OtherPins where
  | accepted | rejected | free
  deriving DecidableEq, Repr

/-- FREE VALUE: the OPEN predicate `pin_ok(kind, pin)` of the external capability, any predicate at all
(spec/20_memory.md R83, spec/92_eei_decisions.md D27; log 10). -/
opaque Config.freePinOk (k : LineKind) (p : Pin) : Bool

/-- The parameters of one machine (spec/00_scope.md R11). They stand in State, where no step writes
them, so that a statement about every state is a statement about every parameter value (log 7).
The defaults are those of spec/95_test_vectors.md; `btnPull` and `pin_ok` are OPEN in the
spec and their defaults are a DESIGN CHOICE (log 7, log 10). -/
structure Config where
  /-- `T_EH`, the enable-high hold time (spec/40_lcd_frame.md R143). -/
  tEh : Duration := 4
  /-- `ADC_BITS`, the width of an analog sample (spec/20_memory.md R73). -/
  adcBits : Nat := 16
  /-- `NEWLINE_CP_MODE` (spec/41_lcd_cursor.md R167). -/
  newlineCpMode : NewlineCpMode := .unchanged
  /-- `POT_INIT_MODE` (spec/10_state.md R46). -/
  potInitMode : PotInitMode := .sample
  /-- `BTN_PULL[i]` at position `i`; a button beyond the list has `noPull`. -/
  btnPull : List Pull := []
  /-- The listed answers of `pin_ok(kind, pin)` (spec/92_eei_decisions.md D27). -/
  pinAnswers : List ((LineKind × Pin) × Bool) := []
  /-- `pin_ok` of every other pin. -/
  otherPins : OtherPins := .accepted
  deriving DecidableEq, Repr

/-- The constraints of spec/00_scope.md R11 on the parameters: `T_EH >= 4 ms`
(spec/40_lcd_frame.md R143) and `ADC_BITS >= 1` (spec/45_pot.md R249). -/
abbrev Config.wf (c : Config) : Prop := 4 ≤ c.tEh ∧ 1 ≤ c.adcBits

/-- `BTN_PULL[i]`. -/
def Config.pullOf (c : Config) (i : Nat) : Pull := c.btnPull.getD i .noPull

/-- `pin_ok(kind, pin)`, the external capability's answer: a predicate that accepts only listed pins,
one that rejects only listed pins, or an arbitrary one (spec/20_memory.md R83,
spec/92_eei_decisions.md D27). -/
def Config.pinOk (c : Config) (k : LineKind) (p : Pin) : Bool :=
  match c.pinAnswers.lookup (k, p) with
  | some ok => ok
  | none =>
    match c.otherPins with
    | .accepted => true
    | .rejected => false
    | .free => Config.freePinOk k p

/-- FREE VALUE: the answer of the `n`-th unlisted read of button line `i`; `none` is a failing read
(spec/00_scope.md R16, spec/60_exceptions.md R289; log 3). -/
opaque Config.freeLevel (i n : Nat) : Option Bool

/-- FREE VALUE: the answer of the `n`-th unlisted read of analog channel `j`; `none` is a failing
read (spec/00_scope.md R16, spec/60_exceptions.md R289; log 3). -/
opaque Config.freeSample (j n : Nat) : Option Nat

/-- `F_CLK` in cycles per millisecond, OPEN; no rule of the block reads it
(spec/00_scope.md R11; log 26). -/
opaque Config.clockPerMs : Rat

/-- The number of cycles a clocked realisation counts for a wait of at least `d`
(spec/60_exceptions.md R307). -/
def Config.cyclesFor (d : Duration) : Int := (d * Config.clockPerMs).ceil

/-- `NB` of the reset state (DESIGN CHOICE, log 7; the spec leaves it open). -/
def Config.resetButtons : Nat := 8

/-- `NP` of the reset state (DESIGN CHOICE, log 7; the spec leaves it open). -/
def Config.resetPots : Nat := 8

end Sys2Proof
end

