-- ==== Sys2Proof/Syntax.lean ====
section
/-! DEFINITION. The operations: one constructor per row of spec/opcode_table.json, the typed operands, the words that carry them. -/

namespace Sys2Proof

/-- The sixteen command names of the LCD opcode table (spec/30_encoding.md R106, R107). -/
inductive OpcodeName where
  | clearDisplay | moveHome | entryMode | turnOff
  | blinkOff | cursorOff | hideCursor
  | blinkOn | turnOn | showCursor | initDisplay
  | moveLeft | moveRight | scrollLeft | scrollRight | font5x7
  deriving DecidableEq, Repr

/-- The operations of the block: the 27 host operations of spec/30_encoding.md R116 and the twelve
FRAME9 rows of spec/opcode_table.json. Operand types are those of spec/30_encoding.md R117, each
wide enough to hold a value outside the type, which the operation then refuses
(spec/60_exceptions.md R292). Optional operands are `Option`s (spec/44_button.md R215,
spec/43_lcd_init_teardown.md R200). -/
inductive Instr where
  | lcdInit (pins : List Pin) (text : Option (List Nat))
  | sendCommand (b : Int)
  | sendData (b : Int)
  | write (text : List Nat)
  | moveCursor (n : Int)
  | newLine
  | lcdOn
  | lcdOff
  | clear
  | home
  | cursorOn
  | cursorOff
  | showCursor
  | hideCursor
  | blinkOn
  | blinkOff
  | scrollLeft
  | scrollRight
  | teardown
  | btnInit (i : Nat) (pin : Pin) (cb : Bool) (interval : Option Duration)
  | btnPoll (i : Nat)
  | potInit (j : Nat) (pin : Pin) (cb : Bool)
  | potValue (j : Nat)
  | potPoll (j : Nat)
  | run
  | quit
  | rdCursor
  | frameClearDisplay
  | frameMoveHome
  | frameEntryMode
  | frameTurnOff
  | frameBlinkOff
  | frameBlinkOn
  | frameMoveLeft
  | frameMoveRight
  | frameScrollLeft
  | frameScrollRight
  | frameFont5x7
  | frameData (d : Byte)
  deriving DecidableEq, Repr

/-- One operand of a host operation. Format HOSTOP carries "the operands of the operation as typed
values (not packed into bits)" (spec/30_encoding.md R115). `absent` is an optional operand not
given, written "-" in spec/95_test_vectors.md. -/
inductive Operand where
  | pins (ps : List Pin)
  | text (cs : List Nat)
  | byte (b : Int)
  | int (n : Int)
  | index (i : Nat)
  | pin (p : Pin)
  | callback (cb : Bool)
  | interval (d : Duration)
  | absent
  deriving DecidableEq, Repr

/-- A word of the two levels of encoding of spec/30_encoding.md: a host operation (selector byte
and typed operands, R115) or a frame word `{RS, D7..D0}` (R100). -/
inductive HostWord where
  | op (sel : BitVec 8) (args : List Operand)
  | frame (w : BitVec 9)
  deriving DecidableEq, Repr

/-- Why a word is rejected. -/
inductive DecodeError where
  /-- Selectors 0x1B to 0xFF are unassigned (spec/30_encoding.md R116). -/
  | unassignedSelector (sel : BitVec 8)
  /-- The operands are not those of the selected operation (spec/30_encoding.md R116, R117). -/
  | wrongOperands (sel : BitVec 8)
  /-- A command frame whose byte has no row of the opcode table: it has no name and only
  SEND_COMMAND produces it (spec/30_encoding.md R113). -/
  | unnamedFrame (w : BitVec 9)
  deriving DecidableEq, Repr

end Sys2Proof
end

