-- ==== Sys2Proof/WellFormed.lean ====
section
/-! DEFINITION. Which operations have all their operands within type (spec/30_encoding.md R114, R117). -/

namespace Sys2Proof

/-- `b`: an unsigned 8-bit value, 0..255 (spec/30_encoding.md R117). -/
def byteInType (b : Int) : Bool := 0 ≤ b && b ≤ 255

/-- `text`: every code point is 0..255 (spec/30_encoding.md R117). -/
def textInType (cs : List Nat) : Bool := cs.all (· ≤ 255)

/-- `interval`: a duration of at least 0 (spec/10_state.md R43). -/
def intervalInType (d : Duration) : Bool := 0 ≤ d

/-- All operands are within type. The bounds of `i` and `j` depend on the machine's `NB` and `NP`
and are checked when the operation is performed; a pin list of another length than ten is no type
error but raises ConfigFault (spec/60_exceptions.md R287). -/
def Instr.wf : Instr → Bool
  | .lcdInit _ none => true
  | .lcdInit _ (some text) => textInType text
  | .sendCommand b => byteInType b
  | .sendData b => byteInType b
  | .write text => textInType text
  | .btnInit _ _ _ none => true
  | .btnInit _ _ _ (some d) => intervalInType d
  | .moveCursor _ => true
  | .newLine => true
  | .lcdOn => true
  | .lcdOff => true
  | .clear => true
  | .home => true
  | .cursorOn => true
  | .cursorOff => true
  | .showCursor => true
  | .hideCursor => true
  | .blinkOn => true
  | .blinkOff => true
  | .scrollLeft => true
  | .scrollRight => true
  | .teardown => true
  | .btnPoll _ => true
  | .potInit _ _ _ => true
  | .potValue _ => true
  | .potPoll _ => true
  | .run => true
  | .quit => true
  | .rdCursor => true
  | .frameClearDisplay => true
  | .frameMoveHome => true
  | .frameEntryMode => true
  | .frameTurnOff => true
  | .frameBlinkOff => true
  | .frameBlinkOn => true
  | .frameMoveLeft => true
  | .frameMoveRight => true
  | .frameScrollLeft => true
  | .frameScrollRight => true
  | .frameFont5x7 => true
  | .frameData _ => true

end Sys2Proof
end

