-- ==== Sys2Proof/Decode.lean ====
section
/-! DEFINITION. The encodings: the LCD opcode values, decoding of host operations and frame words, the encoder, and the host's table words. -/

namespace Sys2Proof

/-- The LCD opcode table, "values to preserve exactly" (spec/30_encoding.md R106, R107). -/
def opcodeByte : OpcodeName → Byte
  | .clearDisplay => 0x01
  | .moveHome => 0x02
  | .entryMode => 0x06
  | .turnOff => 0x08
  | .blinkOff => 0x0C
  | .cursorOff => 0x0C
  | .hideCursor => 0x0C
  | .blinkOn => 0x0F
  | .turnOn => 0x0F
  | .showCursor => 0x0F
  | .initDisplay => 0x0F
  | .moveLeft => 0x10
  | .moveRight => 0x14
  | .scrollLeft => 0x18
  | .scrollRight => 0x1C
  | .font5x7 => 0x38

/-- The frame word `{RS, b}`: bit 8 is RS, bits 7..0 are the byte (spec/30_encoding.md R100). -/
def frameWord (rs : Bool) (b : Byte) : BitVec 9 := BitVec.cons rs b

/-- An operation without operands. -/
def decodeNullary (i : Instr) (sel : BitVec 8) : List Operand → Except DecodeError Instr
  | [] => .ok i
  | _ => .error (.wrongOperands sel)

/-- An operation whose one operand is an instance index. -/
def decodeIndexed (f : Nat → Instr) (sel : BitVec 8) : List Operand → Except DecodeError Instr
  | [.index i] => .ok (f i)
  | _ => .error (.wrongOperands sel)

/-- SEND_COMMAND and SEND_DATA: one byte operand. -/
def decodeByteOp (f : Int → Instr) (sel : BitVec 8) : List Operand → Except DecodeError Instr
  | [.byte b] => .ok (f b)
  | _ => .error (.wrongOperands sel)

/-- LCD_INIT: the pin list, then the optional text. -/
def decodeLcdInit (sel : BitVec 8) : List Operand → Except DecodeError Instr
  | [.pins ps, .text cs] => .ok (.lcdInit ps (some cs))
  | [.pins ps, .absent] => .ok (.lcdInit ps none)
  | _ => .error (.wrongOperands sel)

/-- WRITE: the text. -/
def decodeWrite (sel : BitVec 8) : List Operand → Except DecodeError Instr
  | [.text cs] => .ok (.write cs)
  | _ => .error (.wrongOperands sel)

/-- MOVE_CURSOR: a signed integer. -/
def decodeMove (sel : BitVec 8) : List Operand → Except DecodeError Instr
  | [.int n] => .ok (.moveCursor n)
  | _ => .error (.wrongOperands sel)

/-- BTN_INIT: index, pin, callback flag, optional interval. -/
def decodeBtnInit (sel : BitVec 8) : List Operand → Except DecodeError Instr
  | [.index i, .pin p, .callback cb, .interval d] => .ok (.btnInit i p cb (some d))
  | [.index i, .pin p, .callback cb, .absent] => .ok (.btnInit i p cb none)
  | _ => .error (.wrongOperands sel)

/-- POT_INIT: index, pin, callback flag. -/
def decodePotInit (sel : BitVec 8) : List Operand → Except DecodeError Instr
  | [.index j, .pin p, .callback cb] => .ok (.potInit j p cb)
  | _ => .error (.wrongOperands sel)

/-- Decoding of format HOSTOP by the selectors of spec/30_encoding.md R116. The TEARDOWN selector
decodes to its operation, which refuses a host that issues it (spec/60_exceptions.md R297). -/
def decodeOp (sel : BitVec 8) (args : List Operand) : Except DecodeError Instr :=
  match sel.toNat with
  | 0x00 => decodeLcdInit sel args
  | 0x01 => decodeByteOp .sendCommand sel args
  | 0x02 => decodeByteOp .sendData sel args
  | 0x03 => decodeWrite sel args
  | 0x04 => decodeMove sel args
  | 0x05 => decodeNullary .newLine sel args
  | 0x06 => decodeNullary .lcdOn sel args
  | 0x07 => decodeNullary .lcdOff sel args
  | 0x08 => decodeNullary .clear sel args
  | 0x09 => decodeNullary .home sel args
  | 0x0A => decodeNullary .cursorOn sel args
  | 0x0B => decodeNullary .cursorOff sel args
  | 0x0C => decodeNullary .showCursor sel args
  | 0x0D => decodeNullary .hideCursor sel args
  | 0x0E => decodeNullary .blinkOn sel args
  | 0x0F => decodeNullary .blinkOff sel args
  | 0x10 => decodeNullary .scrollLeft sel args
  | 0x11 => decodeNullary .scrollRight sel args
  | 0x12 => decodeNullary .teardown sel args
  | 0x13 => decodeBtnInit sel args
  | 0x14 => decodeIndexed .btnPoll sel args
  | 0x15 => decodePotInit sel args
  | 0x16 => decodeIndexed .potValue sel args
  | 0x17 => decodeIndexed .potPoll sel args
  | 0x18 => decodeNullary .run sel args
  | 0x19 => decodeNullary .quit sel args
  | 0x1A => decodeNullary .rdCursor sel args
  | _ => .error (.unassignedSelector sel)

/-- Decoding of format FRAME9 (spec/30_encoding.md R100, R108, R111). A shared value is one row:
the frame word does not determine the name (R110). -/
def decodeFrame (w : BitVec 9) : Except DecodeError Instr :=
  if w.getLsbD 8 then .ok (.frameData (w.setWidth 8))
  else match w.toNat with
    | 0x001 => .ok .frameClearDisplay
    | 0x002 => .ok .frameMoveHome
    | 0x006 => .ok .frameEntryMode
    | 0x008 => .ok .frameTurnOff
    | 0x00C => .ok .frameBlinkOff
    | 0x00F => .ok .frameBlinkOn
    | 0x010 => .ok .frameMoveLeft
    | 0x014 => .ok .frameMoveRight
    | 0x018 => .ok .frameScrollLeft
    | 0x01C => .ok .frameScrollRight
    | 0x038 => .ok .frameFont5x7
    | _ => .error (.unnamedFrame w)

/-- The decoder: total on every word. -/
def decode : HostWord → Except DecodeError Instr
  | .op sel args => decodeOp sel args
  | .frame w => decodeFrame w

/-- An optional operand, `absent` when not given. -/
def optional (f : α → Operand) : Option α → Operand
  | none => .absent
  | some a => f a

/-- The encoder, from the selectors and operand orders of spec/30_encoding.md R116 and the frame
words of R108 and R111. -/
def encode : Instr → HostWord
  | .lcdInit ps text => .op 0x00 [.pins ps, optional .text text]
  | .sendCommand b => .op 0x01 [.byte b]
  | .sendData b => .op 0x02 [.byte b]
  | .write cs => .op 0x03 [.text cs]
  | .moveCursor n => .op 0x04 [.int n]
  | .newLine => .op 0x05 []
  | .lcdOn => .op 0x06 []
  | .lcdOff => .op 0x07 []
  | .clear => .op 0x08 []
  | .home => .op 0x09 []
  | .cursorOn => .op 0x0A []
  | .cursorOff => .op 0x0B []
  | .showCursor => .op 0x0C []
  | .hideCursor => .op 0x0D []
  | .blinkOn => .op 0x0E []
  | .blinkOff => .op 0x0F []
  | .scrollLeft => .op 0x10 []
  | .scrollRight => .op 0x11 []
  | .teardown => .op 0x12 []
  | .btnInit i p cb d => .op 0x13 [.index i, .pin p, .callback cb, optional .interval d]
  | .btnPoll i => .op 0x14 [.index i]
  | .potInit j p cb => .op 0x15 [.index j, .pin p, .callback cb]
  | .potValue j => .op 0x16 [.index j]
  | .potPoll j => .op 0x17 [.index j]
  | .run => .op 0x18 []
  | .quit => .op 0x19 []
  | .rdCursor => .op 0x1A []
  | .frameClearDisplay => .frame (frameWord false 0x01)
  | .frameMoveHome => .frame (frameWord false 0x02)
  | .frameEntryMode => .frame (frameWord false 0x06)
  | .frameTurnOff => .frame (frameWord false 0x08)
  | .frameBlinkOff => .frame (frameWord false 0x0C)
  | .frameBlinkOn => .frame (frameWord false 0x0F)
  | .frameMoveLeft => .frame (frameWord false 0x10)
  | .frameMoveRight => .frame (frameWord false 0x14)
  | .frameScrollLeft => .frame (frameWord false 0x18)
  | .frameScrollRight => .frame (frameWord false 0x1C)
  | .frameFont5x7 => .frame (frameWord false 0x38)
  | .frameData d => .frame (frameWord true d)

/-- The operands a table word stands for: the table gives them no bits, so each is the zero of its
type: byte, number, index and pin 0, ten pins 0, the empty text, callback not supplied, optional
operands not given (DESIGN CHOICE, log 4). -/
def zeroOperands (sel : Nat) : List Operand :=
  match sel with
  | 0x00 => [.pins (List.replicate 10 0), .absent]
  | 0x01 => [.byte 0]
  | 0x02 => [.byte 0]
  | 0x03 => [.text []]
  | 0x04 => [.int 0]
  | 0x13 => [.index 0, .pin 0, .callback false, .absent]
  | 0x14 => [.index 0]
  | 0x15 => [.index 0, .pin 0, .callback false]
  | 0x16 => [.index 0]
  | 0x17 => [.index 0]
  | _ => []

/-- The word the host presents for a row of spec/opcode_table.json: rows of one byte are selectors
(HOSTOP), longer ones frame words (FRAME9) (log 4). Nothing when `w` has bits the format does not
have. -/
def tableWord (nbits w : Nat) : Option HostWord :=
  if nbits ≤ 8 then
    if w < 256 then some (.op (BitVec.ofNat 8 w) (zeroOperands w)) else none
  else if w < 512 then some (.frame (BitVec.ofNat 9 w)) else none

/-- The operation the decoder reads from a row's word. -/
def decodeTableWord (nbits w : Nat) : Option Instr :=
  match tableWord nbits w with
  | none => none
  | some word =>
    match decode word with
    | .ok i => some i
    | .error _ => none

end Sys2Proof
end

