-- ==== Sys2Proof/Machine/State.lean ====
section
/-! DEFINITION. The state of the block as plain data, the reasons a step stops, and the state after reset. -/

namespace Sys2Proof.Machine

/-- The ten output lines (spec/10_state.md R32). -/
inductive Line where
  | d7 | d6 | d5 | d4 | d3 | d2 | d1 | d0 | e | rs
  deriving DecidableEq, Repr

/-- The last level written to each output line (spec/10_state.md R31, R32). Reset 0 (R33). -/
structure Lines where
  d7 : Bool := false
  d6 : Bool := false
  d5 : Bool := false
  d4 : Bool := false
  d3 : Bool := false
  d2 : Bool := false
  d1 : Bool := false
  d0 : Bool := false
  e : Bool := false
  rs : Bool := false
  deriving DecidableEq, Repr

/-- A device reference: `Btn(i)` or `Pot(j)` (spec/30_encoding.md R123). -/
inductive Device where
  | btn (i : Nat)
  | pot (j : Nat)
  deriving DecidableEq, Repr

/-- A shutdown action; the block has one, the LCD's TEARDOWN (spec/30_encoding.md R124). -/
inductive Action where
  | teardown
  deriving DecidableEq, Repr

/-- One entry of the trace (spec/00_scope.md R16). `holdAtLeast` carries the lower bound of the wait
(spec/00_scope.md R18; log 11). In `get` and `adc`, `none` is a failed read (spec/60_exceptions.md
R289). In `cfg`, `none` is the absent option "-". -/
inductive Entry where
  | set (l : Line) (v : Bool)
  | holdAtLeast (t : Duration)
  | get (i : Nat) (v : Option Bool)
  | adc (j : Nat) (raw : Option Nat)
  | cfg (kind : LineKind) (pin : Pin) (opt : Option Pull)
  | cb (d : Device)
  | cbDone (d : Device)
  deriving DecidableEq, Repr

/-- The unit whose construction failed (spec/60_exceptions.md R286). -/
inductive UnitName where
  | lcd
  | btn (i : Nat)
  | pot (j : Nat)
  deriving DecidableEq, Repr

/-- What a configuration failure records: the rejected pin (spec/60_exceptions.md R286) or a pin
list that is not ten long (R287). -/
inductive ConfigCause where
  | pin (p : Pin)
  | length
  deriving DecidableEq, Repr

/-- The block's two symbolic faults (spec/60_exceptions.md R285, spec/92_eei_decisions.md D29).
They end an operation, not the machine: the block goes on accepting operations (R286, R290). -/
inductive BlockFault where
  | configFault (unit : UnitName) (cause : ConfigCause)
  | pollFault (d : Device)
  deriving DecidableEq, Repr

/-- What the host is told when an operation it issued ends: that it is done, the result of
RD_CURSOR or POT_VALUE, or the fault that ended it (spec/30_encoding.md R116,
spec/60_exceptions.md R286, R290). -/
inductive Reply where
  | done
  | cursor (n : Int)
  | value (q : Nat)
  | failed (f : BlockFault)
  deriving DecidableEq, Repr

/-- One button instance (spec/10_state.md R40 to R43). The values before BTN_INIT are a DESIGN
CHOICE (log 9): the spec gives none, and no operation reads them. -/
structure Btn where
  /-- `btn_present[i]` (spec/10_state.md R31) -/
  present : Bool := false
  /-- `btn_pin[i]` (spec/10_state.md R31) -/
  pin : Pin := 0
  /-- `pressed[i]` (spec/10_state.md R41) -/
  pressed : Bool := false
  /-- `btn_cb[i]` (spec/10_state.md R42) -/
  cb : Bool := false
  /-- `repeat_interval[i]` (spec/10_state.md R43) -/
  repeatInterval : Duration := 100
  deriving DecidableEq, Repr

/-- One potentiometer instance (spec/10_state.md R44 to R47). The values before POT_INIT are a
DESIGN CHOICE (log 9). `lastValue = none` is the spec's own value `none` (R46). -/
structure Pot where
  /-- `pot_present[j]` (spec/10_state.md R31) -/
  present : Bool := false
  /-- `pot_pin[j]` (spec/10_state.md R31) -/
  pin : Pin := 0
  /-- `last_value[j]` (spec/10_state.md R45, R46) -/
  lastValue : Option Nat := none
  /-- `pot_cb[j]` (spec/10_state.md R47) -/
  cb : Bool := false
  deriving DecidableEq, Repr

/-- The poll a callback window has paused, with what it still has to do: a POT_POLL stores its own
`q` after the callback (spec/45_pot.md R241, R242), a BTN_POLL nothing (spec/60_exceptions.md R298). -/
inductive Paused where
  | btnPoll (i : Nat)
  | potPoll (j q : Nat)
  deriving DecidableEq, Repr

/-- The device whose poll is paused. -/
def Paused.device : Paused → Device
  | .btnPoll i => .btn i
  | .potPoll j _ => .pot j

/-- What the host or the outside world does next (log 2): issues an operation, lets the callback
return (spec/60_exceptions.md R298), lets the callback fail (R302), or resets the block
(spec/10_state.md R66). -/
inductive HostAction where
  | word (w : HostWord)
  | callbackReturn
  | callbackFail
  | blockReset
  deriving DecidableEq, Repr

/-- The state of the block (spec/10_state.md R31), its parameters, and the model's own records of
its boundary. -/
structure State where
  /-- The parameters (spec/00_scope.md R11); no step writes them (log 7). -/
  cfg : Config := {}
  /-- `line[...]` (spec/10_state.md R32) -/
  lines : Lines := {}
  /-- `lcd_present` (spec/10_state.md R38) -/
  lcdPresent : Bool := false
  /-- `lcd_pins` (spec/10_state.md R39) -/
  lcdPins : List Pin := []
  /-- `cursor_position` (spec/10_state.md R34), a mathematical integer of no width (`CP_W`,
  spec/00_scope.md R11); a realisation of finite width is Realisation.exec (R37) -/
  cursorPosition : Int := 1
  /-- the button instances; `NB` is the length (log 7) -/
  btns : List Btn
  /-- the potentiometer instances; `NP` is the length (log 7) -/
  pots : List Pot
  /-- `registry` (spec/10_state.md R48, R49) -/
  registry : List Device := []
  /-- `shutdown_actions` (spec/10_state.md R52) -/
  shutdownActions : List Action := []
  /-- `running` (spec/10_state.md R51) -/
  running : Bool := true
  /-- `seq_active` (spec/10_state.md R50) -/
  seqActive : Bool := false
  /-- `pass_idx` (spec/10_state.md R50) -/
  passIdx : Nat := 0
  /-- `cb_depth` (spec/10_state.md R60) -/
  cbDepth : Nat := 0
  /-- the poll paused by the open callback window (log 15) -/
  paused : Option Paused := none
  /-- QUIT is performing the shutdown actions (spec/20_memory.md R89; log 14) -/
  inQuit : Bool := false
  /-- the enable-hold timer (spec/10_state.md R56); `none` is idle -/
  enableTimer : Option Duration := none
  /-- the button delay timer (spec/10_state.md R57); `none` is idle -/
  buttonTimer : Option Duration := none
  /-- the trace, oldest entry first (spec/00_scope.md R17; log 1) -/
  trace : List Entry := []
  /-- what the host has been told, oldest first (log 1) -/
  replies : List Reply := []
  /-- what the host and the outside world do next (log 2) -/
  pending : List HostAction := []
  /-- the next answers of `LineGet`; `none` is a failing read (log 3) -/
  levels : List (Option Bool) := []
  /-- the next answers of `AdcRead`; `none` is a failing read (log 3) -/
  samples : List (Option Nat) := []
  /-- how many free answers have been drawn (log 3) -/
  freeIdx : Nat := 0
  deriving DecidableEq, Repr

/-- Why the machine stops with a fault. The block's own faults (ConfigFault, PollFault) are not
among them: after those the block goes on (log 12). -/
inductive Fault where
  /-- Raised by the step when a callback fails inside its window: the source does not say what
  happens then, treatment `stuck` (spec/60_exceptions.md R302, spec/93_implementation_defined.md
  U7). Safe. -/
  | callbackFailed (d : Device)
  deriving DecidableEq, Repr

/-- Why an operation is refused. A refused operation has no effect on state and adds nothing to the
trace, and a model marks the run as refused (spec/60_exceptions.md R292, spec/92_eei_decisions.md
D22). Every one is safe. -/
inductive Refusal where
  /-- An operation with no meaning yet; raised by exec only. -/
  | notModelled (mnemonic : String)
  /-- The word does not decode; raised by the step (spec/93_implementation_defined.md section 2,
  items 6 and 12). -/
  | undecodable (e : DecodeError)
  /-- An LCD operation while `lcd_present` is false; raised by every LCD operation (item 1). -/
  | lcdAbsent
  /-- A second LCD_INIT (item 2). -/
  | lcdAlreadyPresent
  /-- A second BTN_INIT or POT_INIT of an index (item 3). -/
  | alreadyPresent (d : Device)
  /-- A poll or POT_VALUE of an absent device (item 4). -/
  | deviceAbsent (d : Device)
  /-- An index outside `0 .. NB-1` or `0 .. NP-1`; raised by every device operation (item 5). -/
  | indexOutOfRange (d : Device)
  /-- A byte outside 0..255; raised by SEND_COMMAND and SEND_DATA (item 6). -/
  | byteOutOfType (b : Int)
  /-- A character code above 255; raised by WRITE and LCD_INIT (item 7). -/
  | textOutOfType
  /-- A negative interval; raised by BTN_INIT (item 8). -/
  | negativeInterval
  /-- An INIT, RUN or poll inside a callback window (item 9). -/
  | insideWindow
  /-- A construction while a QUIT performs the shutdown actions (spec/20_memory.md R89). -/
  | insideQuit
  /-- An operation while RUN is active and no window is open (item 10). -/
  | hostHasNoControl
  /-- TEARDOWN outside a QUIT (item 11). -/
  | teardownNotIssuable
  /-- A callback return or failure with no window open; raised by the step (log 17). -/
  | noWindowOpen
  /-- `cursor_position` would leave the finite register of a realisation; raised by Realisation.bound
  only, never by exec or step (item 13, spec/10_state.md R37; log 27). -/
  | counterOutOfWidth (c : Int)
  /-- `registry` or `shutdown_actions` would outgrow the finite table of a realisation; raised by
  Realisation.bound only, never by exec or step (item 13, spec/10_state.md R49; log 27). -/
  | tableFull
  deriving DecidableEq, Repr

/-- The outcome of one operation or one step. -/
abbrev Result := Host.Outcome State Fault Refusal

/-- The state right after reset (spec/10_state.md R64); the values the spec does not give are named
in log 7 and log 9. -/
def State.reset : State :=
  { btns := List.replicate Config.resetButtons {}
    pots := List.replicate Config.resetPots {} }

end Sys2Proof.Machine
end

