-- ==== Sys2Proof/Machine/Operands.lean ====
section
/-! DEFINITION. Operand forms and the block's arithmetic: bytes and character codes on the bus, the default interval, the potentiometer value. -/

namespace Sys2Proof.Machine

/-- The byte of an operand in 0..255 (spec/30_encoding.md R102). -/
def byteOf (b : Int) : Byte := BitVec.ofInt 8 b

/-- The byte of a character code in 0..255 (spec/30_encoding.md R111). -/
def charByte (c : Nat) : Byte := BitVec.ofNat 8 c

/-- The level of line `Dk` for a byte: `(b >> k) & 1` (spec/20_memory.md R77). -/
def bitLevel (b : Byte) (k : Nat) : Bool := (b >>> k) &&& 1 == 1

/-- The positional map: the line of each position of the LCD_INIT list (spec/20_memory.md R84,
spec/10_state.md R39). -/
def lineOrder : List Line := [.d7, .d6, .d5, .d4, .d3, .d2, .d1, .d0, .e, .rs]

/-- The pins of an LCD_INIT list with the lines they are, in list order. -/
def assignLines (pins : List Pin) : List (Line × Pin) := lineOrder.zip pins

/-- The optional text of LCD_INIT: no text is the empty text (spec/43_lcd_init_teardown.md R204). -/
def initialText (text : Option (List Nat)) : List Nat := text.getD []

/-- "optional repeat interval (default 0.1s)" (spec/10_state.md R43), in milliseconds. -/
def defaultInterval : Duration := 100

/-- The interval operand of BTN_INIT, with its default (spec/44_button.md R215). -/
def intervalOf (interval : Option Duration) : Duration := interval.getD defaultInterval

/-- `ROW_CELLS` (spec/00_scope.md R11): the 40-cell row NEW_LINE assumes. -/
def rowCells : Int := 40

/-- How many MoveRight commands NEW_LINE issues: `max(0, 41 - cursor_position)`
(spec/41_lcd_cursor.md R166, R168). -/
def newLineMoves (cursor : Int) : Nat := (rowCells + 1 - cursor).toNat

/-- The opcode MOVE_CURSOR repeats (spec/41_lcd_cursor.md R163). -/
def moveOpcode (n : Int) : OpcodeName := if 0 < n then .moveRight else .moveLeft

/-- `FULL_SCALE = 2^ADC_BITS - 1` (spec/45_pot.md R237). -/
def fullScale (c : Config) : Nat := 2 ^ c.adcBits - 1

/-- The potentiometer value of a raw sample, an integer 0..100 (spec/45_pot.md R237). -/
def potQ (c : Config) (raw : Nat) : Nat := (200 * raw + fullScale c) / (2 * fullScale c)

/-- An answer of the analog channel, as `AdcRead` sees it: a sample above `FULL_SCALE` is outside
its type and counts as a failing read (spec/93_implementation_defined.md U6; log 20). -/
def sampleInType (c : Config) : Option Nat → Option Nat
  | none => none
  | some raw => if raw ≤ fullScale c then some raw else none

end Sys2Proof.Machine
end

