-- ==== Sys2Proof/Machine/Flags.lean ====
section
/-! DEFINITION. The flag computations: the button's latch `pressed` and the two event conditions. -/

namespace Sys2Proof.Machine

/-- `pressed[i]` after a poll that read `level` (spec/44_button.md R217). -/
def pressedAfter (level : Bool) : Bool := level

/-- The button press event: the level read is high and `pressed[i]` was false
(spec/60_exceptions.md R293). -/
def pressEvent (pressed level : Bool) : Bool := level && !pressed

/-- The potentiometer change event: the computed value differs from `last_value[j]`, and `none`
differs from every integer (spec/45_pot.md R241). -/
def changeEvent (last : Option Nat) (q : Nat) : Bool := last != some q

/-- `running` after a QUIT: false (spec/46_sequencer.md R266). -/
def runningAfterQuit : Bool := false

end Sys2Proof.Machine
end

