-- ==== Sys2Proof/Machine/Ops.lean ====
section
/-! DEFINITION. The primitives of spec/00_scope.md R16 over the state, the frame procedure, admission, fault reporting, and the entry to and return from a callback window. -/

namespace Sys2Proof.Machine

/-! ## Trace and replies -/

/-- Appends entries to the trace (spec/00_scope.md R16). -/
def State.record (s : State) (es : List Entry) : State := { s with trace := s.trace ++ es }

/-- Tells the host how the operation it issued ended. -/
def State.report (s : State) (r : Reply) : State := { s with replies := s.replies ++ [r] }

/-! ## Output lines -/

/-- The lines with one of them at a new level. -/
def Lines.set (ls : Lines) (l : Line) (v : Bool) : Lines :=
  match l with
  | .d7 => { ls with d7 := v }
  | .d6 => { ls with d6 := v }
  | .d5 => { ls with d5 := v }
  | .d4 => { ls with d4 := v }
  | .d3 => { ls with d3 := v }
  | .d2 => { ls with d2 := v }
  | .d1 => { ls with d1 := v }
  | .d0 => { ls with d0 := v }
  | .e => { ls with e := v }
  | .rs => { ls with rs := v }

/-- `LineSet(L, v)`: unconditional, recorded even when the level does not change
(spec/00_scope.md R16, spec/40_lcd_frame.md R142). -/
def State.lineSet (s : State) (l : Line) (v : Bool) : State :=
  { s with lines := s.lines.set l v }.record [.set l v]

/-- `HoldAtLeast(T)` on the enable-hold timer: it is started, elapses, and is idle again
(spec/40_lcd_frame.md R143, spec/60_exceptions.md R306). -/
def State.holdEnable (s : State) (d : Duration) : State :=
  let started := { s with enableTimer := some d }
  { started.record [.holdAtLeast d] with enableTimer := none }

/-- `HoldAtLeast(T)` on the button delay timer (spec/44_button.md R216, spec/60_exceptions.md R306). -/
def State.holdButton (s : State) (d : Duration) : State :=
  let started := { s with buttonTimer := some d }
  { started.record [.holdAtLeast d] with buttonTimer := none }

/-- `Frame(rs, b)` (spec/40_lcd_frame.md R141): RS, then D7 down to D0, then the enable pulse. -/
def State.frame (s : State) (rs : Bool) (b : Byte) : State :=
  let s := s.lineSet .rs rs
  let s := s.lineSet .d7 (bitLevel b 7)
  let s := s.lineSet .d6 (bitLevel b 6)
  let s := s.lineSet .d5 (bitLevel b 5)
  let s := s.lineSet .d4 (bitLevel b 4)
  let s := s.lineSet .d3 (bitLevel b 3)
  let s := s.lineSet .d2 (bitLevel b 2)
  let s := s.lineSet .d1 (bitLevel b 1)
  let s := s.lineSet .d0 (bitLevel b 0)
  let s := s.lineSet .e true
  let s := s.holdEnable s.cfg.tEh
  s.lineSet .e false

/-- A command frame carrying a named opcode (spec/30_encoding.md R108). -/
def State.command (s : State) (op : OpcodeName) : State := s.frame false (opcodeByte op)

/-- The same command frame `n` times. -/
def State.commands (s : State) (op : OpcodeName) : Nat → State
  | 0 => s
  | n + 1 => (s.command op).commands op n

/-- One character: the counter is increased first, then the data frame is sent
(spec/41_lcd_cursor.md R160, R161). -/
def State.writeChar (s : State) (c : Nat) : State :=
  { s with cursorPosition := s.cursorPosition + 1 }.frame true (charByte c)

/-- The characters of a text, first character first (spec/41_lcd_cursor.md R160). -/
def State.writeText (s : State) : List Nat → State
  | [] => s
  | c :: cs => (s.writeChar c).writeText cs

/-- CLEAR and HOME: the frame first, then the counter (spec/42_lcd_simple.md R194). -/
def State.commandHome (s : State) (op : OpcodeName) : State :=
  { s.command op with cursorPosition := 1 }

/-! ## Input lines and analog channels -/

/-- The environment's answer to the next `LineGet(i)` (log 3). -/
def State.levelAnswer (s : State) (i : Nat) : Option Bool :=
  match s.levels with
  | v :: _ => v
  | [] => Config.freeLevel i s.freeIdx

/-- That answer is used up. -/
def State.takeLevel (s : State) : State :=
  match s.levels with
  | _ :: rest => { s with levels := rest }
  | [] => { s with freeIdx := s.freeIdx + 1 }

/-- The effect of `LineGet(i)` on the state: one answer is used and recorded
(spec/00_scope.md R16, spec/60_exceptions.md R289). -/
def State.lineGet (s : State) (i : Nat) : State := s.takeLevel.record [.get i (s.levelAnswer i)]

/-- The environment's answer to the next `AdcRead(j)` (log 3). -/
def State.sampleAnswer (s : State) (j : Nat) : Option Nat :=
  sampleInType s.cfg
    (match s.samples with
    | v :: _ => v
    | [] => Config.freeSample j s.freeIdx)

/-- That answer is used up. -/
def State.takeSample (s : State) : State :=
  match s.samples with
  | _ :: rest => { s with samples := rest }
  | [] => { s with freeIdx := s.freeIdx + 1 }

/-- The effect of `AdcRead(j)` on the state (spec/00_scope.md R16, spec/60_exceptions.md R289). -/
def State.adcRead (s : State) (j : Nat) : State := s.takeSample.record [.adc j (s.sampleAnswer j)]

/-! ## Configuration and registration -/

/-- A successful `Configure(kind, pin, opt)`; a rejected one adds no entry
(spec/60_exceptions.md R286). -/
def State.configured (s : State) (k : LineKind) (p : Pin) (opt : Option Pull) : State :=
  s.record [.cfg k p opt]

/-- The pin that is the given line, none before LCD_INIT (spec/20_memory.md R84,
spec/10_state.md R39). -/
def State.pinOf (s : State) (l : Line) : Option Pin := (assignLines s.lcdPins).lookup l

/-- `Configure(output, p, -)` for each pin in list order: the state, and the first pin the
capability rejects (spec/43_lcd_init_teardown.md R201, R203). -/
def State.configureOutputs (s : State) : List Pin → State × Option Pin
  | [] => (s, none)
  | p :: ps =>
    if s.cfg.pinOk .output p then (s.configured .output p none).configureOutputs ps
    else (s, some p)

/-- `Register(dev)` (spec/00_scope.md R16): at the end of `registry`. -/
def State.register (s : State) (d : Device) : State := { s with registry := s.registry ++ [d] }

/-- `RegisterShutdown(a)` (spec/00_scope.md R16): at the end of `shutdown_actions`. -/
def State.registerShutdown (s : State) (a : Action) : State :=
  { s with shutdownActions := s.shutdownActions ++ [a] }

/-- Button instance `i` holds `b` from now on. -/
def State.putBtn (s : State) (i : Nat) (b : Btn) : State := { s with btns := s.btns.set i b }

/-- Potentiometer instance `j` holds `p` from now on. -/
def State.putPot (s : State) (j : Nat) (p : Pot) : State := { s with pots := s.pots.set j p }

/-- `last_value[j] <- q` (spec/45_pot.md R241). -/
def State.storeLast (s : State) (j q : Nat) : State :=
  { s with pots := s.pots.modify j (fun p => { p with lastValue := some q }) }

/-! ## Admission (spec/60_exceptions.md R297) -/

/-- The host has control: it is idle, or a callback window is open. While RUN is active and no
window is open it has none. -/
def State.hostHasControl (s : State) : Bool := !s.seqActive || s.cbDepth != 0

/-- Operations admitted whenever the host has control. -/
def whenControl (s : State) (k : Result) : Result :=
  if s.hostHasControl then k else .refused .hostHasNoControl

/-- LCD operations: admitted whenever the host has control, and the LCD must have been constructed
(spec/10_state.md R38). -/
def whenLcd (s : State) (k : Result) : Result :=
  whenControl s (if s.lcdPresent then k else .refused .lcdAbsent)

/-- Operations admitted at host idle only: no window open and RUN not active. -/
def whenIdle (s : State) (k : Result) : Result :=
  if s.cbDepth ≠ 0 then .refused .insideWindow
  else if s.seqActive then .refused .hostHasNoControl
  else k

/-- Constructions: admitted at host idle, and never inside a QUIT, which reads the registries
(spec/20_memory.md R89, spec/46_sequencer.md R274). -/
def whenConstruction (s : State) (k : Result) : Result :=
  whenIdle s (if s.inQuit then .refused .insideQuit else k)

/-- A poll: issued by the host at host idle, or performed by RUN for the device it is at
(spec/44_button.md R216, R225, spec/45_pot.md R248). -/
def whenPoll (s : State) (d : Device) (k : Result) : Result :=
  if s.cbDepth ≠ 0 then .refused .insideWindow
  else if s.seqActive && s.registry[s.passIdx]? != some d then .refused .hostHasNoControl
  else k

/-- A button that must have been constructed (spec/93_implementation_defined.md section 2, items 4
and 5). -/
def whenBtn (s : State) (i : Nat) (k : Btn → Result) : Result :=
  match s.btns[i]? with
  | none => .refused (.indexOutOfRange (.btn i))
  | some b => if b.present then k b else .refused (.deviceAbsent (.btn i))

/-- A potentiometer that must have been constructed. -/
def whenPot (s : State) (j : Nat) (k : Pot → Result) : Result :=
  match s.pots[j]? with
  | none => .refused (.indexOutOfRange (.pot j))
  | some p => if p.present then k p else .refused (.deviceAbsent (.pot j))

/-- A button index that has not been constructed yet (items 3 and 5). -/
def whenBtnFree (s : State) (i : Nat) (k : Result) : Result :=
  match s.btns[i]? with
  | none => .refused (.indexOutOfRange (.btn i))
  | some b => if b.present then .refused (.alreadyPresent (.btn i)) else k

/-- A potentiometer index that has not been constructed yet (items 3 and 5). -/
def whenPotFree (s : State) (j : Nat) (k : Result) : Result :=
  match s.pots[j]? with
  | none => .refused (.indexOutOfRange (.pot j))
  | some p => if p.present then .refused (.alreadyPresent (.pot j)) else k

/-! ## The end of a poll and the pass loop (spec/46_sequencer.md R261) -/

/-- The end of a pass: back to index 0, and RUN returns when `running` is false, the only place
where it is tested during RUN. -/
def State.passBoundary (s : State) : State :=
  let s := { s with passIdx := 0 }
  if s.running then s else { s with seqActive := false }.report .done

/-- On to the next device of the pass, or to its end (log 24). -/
def State.advancePass (s : State) : State :=
  if s.passIdx + 1 < s.registry.length then { s with passIdx := s.passIdx + 1 }
  else s.passBoundary

/-- A poll has ended: RUN goes on; a poll the host issued is done. -/
def State.finishPoll (s : State) : State :=
  if s.seqActive then s.advancePass else s.report .done

/-! ## Taking a fault (spec/60_exceptions.md R286 to R290) -/

/-- `raise <fault>`: ends the current operation and is reported to the host as its failure. Nothing
is saved and nothing latched (spec/60_exceptions.md R314). -/
def State.raise (s : State) (f : BlockFault) : State := s.report (.failed f)

/-- PollFault in a poll: absorbed by RUN, which goes on with the next device
(spec/46_sequencer.md R264); reported when the host issued the poll (spec/60_exceptions.md R290). -/
def State.pollFault (s : State) (d : Device) : State :=
  if s.seqActive then s.advancePass else s.raise (.pollFault d)

/-! ## The callback window (spec/60_exceptions.md R296, R298) -/

/-- `Callback(dev)`, the entry: the poll is paused and the host gets control. Nothing else is saved
and no mode changes (spec/60_exceptions.md R296). -/
def State.openWindow (s : State) (p : Paused) : State :=
  { s.record [.cb p.device] with cbDepth := s.cbDepth + 1, paused := some p }

/-- The rest of a paused poll: POT_POLL stores its `q`, BTN_POLL has nothing left to do
(spec/60_exceptions.md R298). -/
def State.resume (s : State) : Paused → State
  | .btnPoll _ => s.finishPoll
  | .potPoll j q => (s.storeLast j q).finishPoll

/-- The return: the window is closed and the paused poll goes on (spec/60_exceptions.md R298). -/
def State.closeWindow (s : State) (p : Paused) : State :=
  { s.record [.cbDone p.device] with cbDepth := s.cbDepth - 1, paused := none }.resume p

/-! ## Block reset -/

/-- A block reset: every element returns to its reset value at once, with no teardown frames
(spec/10_state.md R66). What is not the block's stays: the parameters, the number of instances,
what the host and the environment do next (log 16). -/
def State.blockReset (s : State) : State :=
  { cfg := s.cfg
    btns := List.replicate s.btns.length {}
    pots := List.replicate s.pots.length {}
    pending := s.pending
    levels := s.levels
    samples := s.samples
    freeIdx := s.freeIdx }

end Sys2Proof.Machine
end

