-- ==== Sys2Proof/Machine/LcdFrame.lean ====
section
/-! DEFINITION. SEND_COMMAND, SEND_DATA and the twelve FRAME9 rows: one frame each (spec/40_lcd_frame.md). -/

namespace Sys2Proof.Machine

/-- One frame as a whole LCD operation (spec/40_lcd_frame.md R140, R146). -/
def sendFrame (rs : Bool) (b : Byte) (s : State) : Result :=
  whenLcd s (.next ((s.frame rs b).report .done))

/-- One frame whose byte is an operand, refused when it is not 0..255 (spec/30_encoding.md R114). -/
def sendByte (rs : Bool) (b : Int) (s : State) : Result :=
  if byteInType b then sendFrame rs (byteOf b) s else .refused (.byteOutOfType b)

/-- SEND_COMMAND (spec/40_lcd_frame.md R140). -/
def execSendCommand (b : Int) (s : State) : Result := sendByte false b s

/-- SEND_DATA (spec/40_lcd_frame.md R146). -/
def execSendData (b : Int) (s : State) : Result := sendByte true b s

/-! A FRAME9 row is the frame itself, sent by the framing engine (spec/30_encoding.md R108, R111;
spec/40_lcd_frame.md R141; log 5). -/

def execFrameClearDisplay (s : State) : Result := sendFrame false (opcodeByte .clearDisplay) s

def execFrameMoveHome (s : State) : Result := sendFrame false (opcodeByte .moveHome) s

def execFrameEntryMode (s : State) : Result := sendFrame false (opcodeByte .entryMode) s

def execFrameTurnOff (s : State) : Result := sendFrame false (opcodeByte .turnOff) s

def execFrameBlinkOff (s : State) : Result := sendFrame false (opcodeByte .blinkOff) s

def execFrameBlinkOn (s : State) : Result := sendFrame false (opcodeByte .blinkOn) s

def execFrameMoveLeft (s : State) : Result := sendFrame false (opcodeByte .moveLeft) s

def execFrameMoveRight (s : State) : Result := sendFrame false (opcodeByte .moveRight) s

def execFrameScrollLeft (s : State) : Result := sendFrame false (opcodeByte .scrollLeft) s

def execFrameScrollRight (s : State) : Result := sendFrame false (opcodeByte .scrollRight) s

def execFrameFont5x7 (s : State) : Result := sendFrame false (opcodeByte .font5x7) s

def execFrameData (d : Byte) (s : State) : Result := sendFrame true d s

end Sys2Proof.Machine
end

