-- ==== Sys2Proof/Machine/LcdCursor.lean ====
section
/-! DEFINITION. WRITE, MOVE_CURSOR, NEW_LINE and RD_CURSOR (spec/41_lcd_cursor.md). -/

namespace Sys2Proof.Machine

/-- WRITE (spec/41_lcd_cursor.md R160); a character code above 255 refuses the whole operation
(R162). -/
def execWrite (text : List Nat) (s : State) : Result :=
  if textInType text then whenLcd s (.next ((s.writeText text).report .done))
  else .refused .textOutOfType

/-- The effect of MOVE_CURSOR: all the frames first, then the counter once
(spec/41_lcd_cursor.md R163, R164). -/
def State.moveCursor (s : State) (n : Int) : State :=
  { s.commands (moveOpcode n) n.natAbs with cursorPosition := s.cursorPosition + n }

/-- MOVE_CURSOR (spec/41_lcd_cursor.md R163); `n = 0` does nothing. -/
def execMoveCursor (n : Int) (s : State) : Result :=
  whenLcd s (.next ((if n = 0 then s else s.moveCursor n).report .done))

/-- The effect of NEW_LINE (spec/41_lcd_cursor.md R166 to R168). -/
def State.newLine (s : State) : State :=
  let k := newLineMoves s.cursorPosition
  let sent := s.commands .moveRight k
  match s.cfg.newlineCpMode with
  | .unchanged => sent
  | .advance => { sent with cursorPosition := s.cursorPosition + k }

/-- NEW_LINE (spec/41_lcd_cursor.md R166). -/
def execNewLine (s : State) : Result := whenLcd s (.next (s.newLine.report .done))

/-- RD_CURSOR (spec/41_lcd_cursor.md R170): reports the counter, writes nothing else. -/
def execRdCursor (s : State) : Result := whenLcd s (.next (s.report (.cursor s.cursorPosition)))

end Sys2Proof.Machine
end

