-- ==== Sys2Proof/Machine/LcdSimple.lean ====
section
/-! DEFINITION. The twelve single-opcode operations (spec/42_lcd_simple.md). -/

namespace Sys2Proof.Machine

/-- A pseudo-operation: one opcode sent once (spec/30_encoding.md R119). -/
def sendOpcode (op : OpcodeName) (s : State) : Result := sendFrame false (opcodeByte op) s

/-- A pseudo-operation that also resets the counter to 1 (spec/42_lcd_simple.md R194). -/
def sendHome (op : OpcodeName) (s : State) : Result :=
  whenLcd s (.next ((s.commandHome op).report .done))

/-- ON (spec/42_lcd_simple.md R180). -/
def execLcdOn (s : State) : Result := sendOpcode .turnOn s

/-- OFF (spec/42_lcd_simple.md R181). -/
def execLcdOff (s : State) : Result := sendOpcode .turnOff s

/-- CLEAR (spec/42_lcd_simple.md R182). -/
def execClear (s : State) : Result := sendHome .clearDisplay s

/-- HOME (spec/42_lcd_simple.md R183). -/
def execHome (s : State) : Result := sendHome .moveHome s

/-- CURSOR_ON (spec/42_lcd_simple.md R184): the value of ShowCursor, 0x0F, by decision D8 (log 22). -/
def execCursorOn (s : State) : Result := sendOpcode .showCursor s

/-- CURSOR_OFF (spec/42_lcd_simple.md R185). -/
def execCursorOff (s : State) : Result := sendOpcode .cursorOff s

/-- SHOW_CURSOR (spec/42_lcd_simple.md R186). -/
def execShowCursor (s : State) : Result := sendOpcode .showCursor s

/-- HIDE_CURSOR (spec/42_lcd_simple.md R187). -/
def execHideCursor (s : State) : Result := sendOpcode .hideCursor s

/-- BLINK_ON (spec/42_lcd_simple.md R188). -/
def execBlinkOn (s : State) : Result := sendOpcode .blinkOn s

/-- BLINK_OFF (spec/42_lcd_simple.md R189). -/
def execBlinkOff (s : State) : Result := sendOpcode .blinkOff s

/-- SCROLL_LEFT (spec/42_lcd_simple.md R190). -/
def execScrollLeft (s : State) : Result := sendOpcode .scrollLeft s

/-- SCROLL_RIGHT (spec/42_lcd_simple.md R191). -/
def execScrollRight (s : State) : Result := sendOpcode .scrollRight s

end Sys2Proof.Machine
end

