-- ==== Sys2Proof/Machine/LcdInit.lean ====
section
/-! DEFINITION. LCD_INIT and TEARDOWN (spec/43_lcd_init_teardown.md). -/

namespace Sys2Proof.Machine

/-- The LCD comes into being: after the last successful `Configure`, before the first frame
(spec/43_lcd_init_teardown.md R201). -/
def State.lcdConstructed (s : State) (pins : List Pin) : State :=
  { s with lcdPins := pins, cursorPosition := 1, lcdPresent := true }.registerShutdown .teardown

/-- The fixed 4-command init sequence (spec/43_lcd_init_teardown.md R200, R201). -/
def State.initSequence (s : State) : State :=
  (((s.command .font5x7).command .initDisplay).command .entryMode).command .clearDisplay

/-- LCD_INIT once admitted: the length check, the ten `Configure` calls line by line, the construction, the four
frames, the text (spec/43_lcd_init_teardown.md R201, R203). -/
def State.lcdInit (s : State) (pins : List Pin) (text : List Nat) : State :=
  if pins.length ≠ 10 then s.raise (.configFault .lcd .length)
  else
    match s.configureOutputs ((assignLines pins).map Prod.snd) with
    | (s, some p) => s.raise (.configFault .lcd (.pin p))
    | (s, none) => (((s.lcdConstructed pins).initSequence).writeText text).report .done

/-- LCD_INIT (spec/43_lcd_init_teardown.md R200). -/
def execLcdInit (pins : List Pin) (text : Option (List Nat)) (s : State) : Result :=
  whenConstruction s
    (if s.lcdPresent then .refused .lcdAlreadyPresent
    else if textInType (initialText text) then .next (s.lcdInit pins (initialText text))
    else .refused .textOutOfType)

/-- The effect of TEARDOWN: CLEAR then OFF (spec/43_lcd_init_teardown.md R205). -/
def State.teardown (s : State) : State := (s.commandHome .clearDisplay).command .turnOff

/-- TEARDOWN (spec/43_lcd_init_teardown.md R205): performed by a QUIT, never issuable by the host
(spec/60_exceptions.md R297; log 14). -/
def execTeardown (s : State) : Result :=
  if s.inQuit then .next s.teardown else .refused .teardownNotIssuable

end Sys2Proof.Machine
end

