-- ==== Sys2Proof/Machine/Button.lean ====
section
/-! DEFINITION. BTN_INIT and BTN_POLL (spec/44_button.md). -/

namespace Sys2Proof.Machine

/-- BTN_INIT once admitted (spec/44_button.md R215): `Configure`, the initial read, the fields, the
registration. A fault leaves no partial effect (spec/60_exceptions.md R286, R290). -/
def State.btnInit (s : State) (i : Nat) (pin : Pin) (cb : Bool) (interval : Duration) : State :=
  if s.cfg.pinOk .input pin then
    let configured := s.configured .input pin (some (s.cfg.pullOf i))
    let read := configured.lineGet i
    match configured.levelAnswer i with
    | none => read.raise (.pollFault (.btn i))
    | some level =>
      ((read.putBtn i
        { present := true, pin := pin, pressed := level, cb := cb, repeatInterval := interval }
        ).register (.btn i)).report .done
  else s.raise (.configFault (.btn i) (.pin pin))

/-- BTN_INIT (spec/44_button.md R215). -/
def execBtnInit (i : Nat) (pin : Pin) (cb : Bool) (interval : Option Duration) (s : State) : Result :=
  whenConstruction s (whenBtnFree s i
    (if intervalInType (intervalOf interval) then .next (s.btnInit i pin cb (intervalOf interval))
    else .refused .negativeInterval))

/-- BTN_POLL after a high reading: the latch is set before the callback
(spec/44_button.md R216, R218). -/
def State.btnHigh (s : State) (i : Nat) (b : Btn) : State :=
  let latched := s.putBtn i { b with pressed := pressedAfter true }
  if pressEvent b.pressed true && b.cb then latched.openWindow (.btnPoll i) else latched.finishPoll

/-- BTN_POLL after a low reading: the latch is cleared, then the delay (spec/44_button.md R216, R218). -/
def State.btnLow (s : State) (i : Nat) (b : Btn) : State :=
  ((s.putBtn i { b with pressed := pressedAfter false }).holdButton b.repeatInterval).finishPoll

/-- BTN_POLL once admitted: exactly one read (spec/44_button.md R216). -/
def State.btnPoll (s : State) (i : Nat) (b : Btn) : State :=
  match s.levelAnswer i with
  | none => (s.lineGet i).pollFault (.btn i)
  | some true => (s.lineGet i).btnHigh i b
  | some false => (s.lineGet i).btnLow i b

/-- BTN_POLL (spec/44_button.md R216). -/
def execBtnPoll (i : Nat) (s : State) : Result :=
  whenPoll s (.btn i) (whenBtn s i (fun b => .next (s.btnPoll i b)))

end Sys2Proof.Machine
end

