-- ==== Sys2Proof/Machine/Potentiometer.lean ====
section
/-! DEFINITION. POT_INIT, POT_VALUE and POT_POLL (spec/45_pot.md). -/

namespace Sys2Proof.Machine

/-- The construction of a potentiometer with its initial `last_value` (spec/45_pot.md R235). -/
def State.potConstructed (s : State) (j : Nat) (pin : Pin) (cb : Bool) (last : Option Nat) : State :=
  ((s.putPot j { present := true, pin := pin, lastValue := last, cb := cb }).register (.pot j)).report
    .done

/-- POT_INIT once admitted (spec/45_pot.md R235). A fault leaves no partial effect
(spec/60_exceptions.md R286, R290). -/
def State.potInit (s : State) (j : Nat) (pin : Pin) (cb : Bool) : State :=
  if s.cfg.pinOk .analog pin then
    let configured := s.configured .analog pin none
    match s.cfg.potInitMode with
    | .noValue => configured.potConstructed j pin cb none
    | .sample =>
      let read := configured.adcRead j
      match configured.sampleAnswer j with
      | none => read.raise (.pollFault (.pot j))
      | some raw => read.potConstructed j pin cb (some (potQ s.cfg raw))
  else s.raise (.configFault (.pot j) (.pin pin))

/-- POT_INIT (spec/45_pot.md R235). -/
def execPotInit (j : Nat) (pin : Pin) (cb : Bool) (s : State) : Result :=
  whenConstruction s (whenPotFree s j (.next (s.potInit j pin cb)))

/-- POT_VALUE once admitted: one read, no state written (spec/45_pot.md R239). -/
def State.potValue (s : State) (j : Nat) : State :=
  match s.sampleAnswer j with
  | none => (s.adcRead j).raise (.pollFault (.pot j))
  | some raw => (s.adcRead j).report (.value (potQ s.cfg raw))

/-- POT_VALUE (spec/45_pot.md R239), admitted inside a callback window too
(spec/60_exceptions.md R297). -/
def execPotValue (j : Nat) (s : State) : Result :=
  whenControl s (whenPot s j (fun _ => .next (s.potValue j)))

/-- POT_POLL after a reading: the callback comes before the update of `last_value`
(spec/45_pot.md R241, R242). -/
def State.potRead (s : State) (j : Nat) (p : Pot) (q : Nat) : State :=
  if changeEvent p.lastValue q && p.cb then s.openWindow (.potPoll j q)
  else (s.storeLast j q).finishPoll

/-- POT_POLL once admitted: exactly one read (spec/45_pot.md R241). -/
def State.potPoll (s : State) (j : Nat) (p : Pot) : State :=
  match s.sampleAnswer j with
  | none => (s.adcRead j).pollFault (.pot j)
  | some raw => (s.adcRead j).potRead j p (potQ s.cfg raw)

/-- POT_POLL (spec/45_pot.md R241). -/
def execPotPoll (j : Nat) (s : State) : Result :=
  whenPoll s (.pot j) (whenPot s j (fun p => .next (s.potPoll j p)))

end Sys2Proof.Machine
end

