-- ==== Sys2Proof/Machine/Sequencer.lean ====
section
/-! DEFINITION. RUN and QUIT (spec/46_sequencer.md). -/

namespace Sys2Proof.Machine

/-- RUN once admitted: with `running` false it returns at once; else the pass loop begins at index 0
(spec/46_sequencer.md R261, R265). The step performs the polls one by one. -/
def State.startRun (s : State) : State :=
  if s.running then { s with seqActive := true, passIdx := 0 } else s.report .done

/-- RUN (spec/46_sequencer.md R260). -/
def execRun (s : State) : Result := whenIdle s (.next s.startRun)

/-- Performs one shutdown action (spec/30_encoding.md R124). -/
def performAction (a : Action) (s : State) : Result :=
  match a with
  | .teardown => execTeardown s

/-- Performs the actions in registration order (spec/46_sequencer.md R266). -/
def performActions : List Action → State → Result
  | [], s => .next s
  | a :: rest, s =>
    match performAction a s with
    | .next t => performActions rest t
    | .fault f => .fault f
    | .refused r => .refused r

/-- The end of QUIT: `running` becomes false only after every action has completed
(spec/46_sequencer.md R266). -/
def State.quitDone (s : State) : State :=
  { s with running := runningAfterQuit, inQuit := false }.report .done

/-- QUIT (spec/46_sequencer.md R266, R269). -/
def execQuit (s : State) : Result :=
  whenControl s
    (match performActions s.shutdownActions { s with inQuit := true } with
    | .next t => .next t.quitDone
    | .fault f => .fault f
    | .refused r => .refused r)

end Sys2Proof.Machine
end

