-- ==== Sys2Proof/Machine/Dispatch.lean ====
section
/-! DEFINITION. One arm per operation: which meaning it has. -/

namespace Sys2Proof.Machine

def exec (i : Instr) (s : State) : Host.Outcome State Fault Refusal :=
  match i with
  | .lcdInit pins text => Sys2Proof.Machine.execLcdInit pins text s
  | .sendCommand b => Sys2Proof.Machine.execSendCommand b s
  | .sendData b => Sys2Proof.Machine.execSendData b s
  | .write text => Sys2Proof.Machine.execWrite text s
  | .moveCursor n => Sys2Proof.Machine.execMoveCursor n s
  | .newLine => Sys2Proof.Machine.execNewLine s
  | .lcdOn => Sys2Proof.Machine.execLcdOn s
  | .lcdOff => Sys2Proof.Machine.execLcdOff s
  | .clear => Sys2Proof.Machine.execClear s
  | .home => Sys2Proof.Machine.execHome s
  | .cursorOn => Sys2Proof.Machine.execCursorOn s
  | .cursorOff => Sys2Proof.Machine.execCursorOff s
  | .showCursor => Sys2Proof.Machine.execShowCursor s
  | .hideCursor => Sys2Proof.Machine.execHideCursor s
  | .blinkOn => Sys2Proof.Machine.execBlinkOn s
  | .blinkOff => Sys2Proof.Machine.execBlinkOff s
  | .scrollLeft => Sys2Proof.Machine.execScrollLeft s
  | .scrollRight => Sys2Proof.Machine.execScrollRight s
  | .teardown => Sys2Proof.Machine.execTeardown s
  | .btnInit k pin cb interval => Sys2Proof.Machine.execBtnInit k pin cb interval s
  | .btnPoll k => Sys2Proof.Machine.execBtnPoll k s
  | .potInit j pin cb => Sys2Proof.Machine.execPotInit j pin cb s
  | .potValue j => Sys2Proof.Machine.execPotValue j s
  | .potPoll j => Sys2Proof.Machine.execPotPoll j s
  | .run => Sys2Proof.Machine.execRun s
  | .quit => Sys2Proof.Machine.execQuit s
  | .rdCursor => Sys2Proof.Machine.execRdCursor s
  | .frameClearDisplay => Sys2Proof.Machine.execFrameClearDisplay s
  | .frameMoveHome => Sys2Proof.Machine.execFrameMoveHome s
  | .frameEntryMode => Sys2Proof.Machine.execFrameEntryMode s
  | .frameTurnOff => Sys2Proof.Machine.execFrameTurnOff s
  | .frameBlinkOff => Sys2Proof.Machine.execFrameBlinkOff s
  | .frameBlinkOn => Sys2Proof.Machine.execFrameBlinkOn s
  | .frameMoveLeft => Sys2Proof.Machine.execFrameMoveLeft s
  | .frameMoveRight => Sys2Proof.Machine.execFrameMoveRight s
  | .frameScrollLeft => Sys2Proof.Machine.execFrameScrollLeft s
  | .frameScrollRight => Sys2Proof.Machine.execFrameScrollRight s
  | .frameFont5x7 => Sys2Proof.Machine.execFrameFont5x7 s
  | .frameData d => Sys2Proof.Machine.execFrameData d s

end Sys2Proof.Machine
end

