-- ==== Sys2Proof/Machine/Fetch.lean ====
section
/-! DEFINITION. How the next operation comes to be performed: from the host's pending actions, or from `registry` while RUN is active. -/

namespace Sys2Proof.Machine

/-- A word the host presents: the operation it decodes to is performed; any other word is refused
(spec/30_encoding.md R116). -/
def performWord (w : HostWord) (s : State) : Result :=
  match decode w with
  | .ok i => exec i s
  | .error e => .refused (.undecodable e)

/-- The end of a callback, by return (spec/60_exceptions.md R298). -/
def callbackReturn (s : State) : Result :=
  match s.paused with
  | some p => .next (s.closeWindow p)
  | none => .refused .noWindowOpen

/-- A callback that fails: nothing further happens (spec/93_implementation_defined.md U7; log 17). -/
def callbackFail (s : State) : Result :=
  match s.paused with
  | some p => .fault (.callbackFailed p.device)
  | none => .refused .noWindowOpen

/-- Performs one pending action, already taken off the list. -/
def performPending (a : HostAction) (s : State) : Result :=
  match a with
  | .word w => performWord w s
  | .callbackReturn => callbackReturn s
  | .callbackFail => callbackFail s
  | .blockReset => .next s.blockReset

/-- The poll of a device (spec/46_sequencer.md R261). -/
def pollOf : Device → Instr
  | .btn i => .btnPoll i
  | .pot j => .potPoll j

/-- RUN is active and the host has no control: the device at `pass_idx` is polled. With an empty
`registry` the pass is empty (spec/46_sequencer.md R265). -/
def sequencerStep (s : State) : Result :=
  match s.registry[s.passIdx]? with
  | some d => exec (pollOf d) s
  | none => .next s.passBoundary

/-- One step. A block reset comes from outside and is taken whoever has control (log 16). With
nothing pending the block waits (spec/10_state.md R65; log 18). -/
def nextStep (s : State) : Result :=
  match s.pending with
  | .blockReset :: rest => .next { s with pending := rest }.blockReset
  | a :: rest =>
    if s.hostHasControl then performPending a { s with pending := rest } else sequencerStep s
  | [] => if s.hostHasControl then .next s else sequencerStep s

/-- The state in which the host has control and presents `w` next (log 4). While RUN is active with
no window open the host has no control, so RUN is ended first. -/
def State.presenting (s : State) (w : HostWord) : State :=
  let idle := if s.hostHasControl then s else { s with seqActive := false, passIdx := 0 }
  { idle with pending := .word w :: idle.pending }

end Sys2Proof.Machine
end

