-- ==== Sys2Proof/Machine/Step.lean ====
section
/-! DEFINITION. The step of the machine, and the host's way of placing a table word where the step takes it. -/

namespace Sys2Proof.Machine

/-- One step of the machine. -/
def step : State → Host.Outcome State Fault Refusal := nextStep

/-- `s` with the word of a table row presented by the host, so that the next step performs it. A
word the table's formats cannot hold changes nothing. -/
def State.withFetchWord (s : State) (nbits w : Nat) : State :=
  match tableWord nbits w with
  | some word => s.presenting word
  | none => s

end Sys2Proof.Machine
end

