-- ==== Sys2Proof/Safety.lean ====
section
/-! DEFINITION. The terms claims use: what a frame leaves on the lines and in the trace, the frame sequence and the least duration of a trace, and what holds of every state between two steps. -/

namespace Sys2Proof.Machine

/-! ## Frames as seen from outside -/

/-- The twelve trace entries of one frame (spec/40_lcd_frame.md R141). -/
def frameEntries (tEh : Duration) (rs : Bool) (b : Byte) : List Entry :=
  [.set .rs rs, .set .d7 (b.getLsbD 7), .set .d6 (b.getLsbD 6), .set .d5 (b.getLsbD 5),
    .set .d4 (b.getLsbD 4), .set .d3 (b.getLsbD 3), .set .d2 (b.getLsbD 2),
    .set .d1 (b.getLsbD 1), .set .d0 (b.getLsbD 0), .set .e true, .holdAtLeast tEh, .set .e false]

/-- The levels of the ten lines after a frame (spec/40_lcd_frame.md R145). -/
def frameLines (rs : Bool) (b : Byte) : Lines :=
  { d7 := b.getLsbD 7, d6 := b.getLsbD 6, d5 := b.getLsbD 5, d4 := b.getLsbD 4
    d3 := b.getLsbD 3, d2 := b.getLsbD 2, d1 := b.getLsbD 1, d0 := b.getLsbD 0
    e := false, rs := rs }

/-- `s` after the given frames and nothing else: the lines hold the last one, the trace has twelve
entries for each, the enable-hold timer has run out. -/
def State.afterFrames (s : State) (ws : List (Bool × Byte)) : State :=
  { s with
    lines := match ws.getLast? with
      | none => s.lines
      | some w => frameLines w.1 w.2
    enableTimer := if ws.isEmpty then s.enableTimer else none
    trace := s.trace ++ ws.flatMap (fun w => frameEntries s.cfg.tEh w.1 w.2) }

/-- The effect of one trace entry on the levels of the lines. -/
def Lines.apply (ls : Lines) : Entry → Lines
  | .set l v => ls.set l v
  | .holdAtLeast _ => ls
  | .get _ _ => ls
  | .adc _ _ => ls
  | .cfg _ _ _ => ls
  | .cb _ => ls
  | .cbDone _ => ls

/-- The levels of the lines after the entries of a trace. -/
def Lines.replay (ls : Lines) (es : List Entry) : Lines := es.foldl Lines.apply ls

/-- Every line write of the trace belongs to a complete frame in the order of
spec/40_lcd_frame.md R141, with a hold of at least `tEh`. -/
def wellFramed (tEh : Duration) : List Entry → Bool
  | [] => true
  | .set .rs _ :: .set .d7 _ :: .set .d6 _ :: .set .d5 _ :: .set .d4 _ :: .set .d3 _ ::
      .set .d2 _ :: .set .d1 _ :: .set .d0 _ :: .set .e true :: .holdAtLeast t :: .set .e false ::
      rest => tEh ≤ t && wellFramed tEh rest
  | .set _ _ :: _ => false
  | .holdAtLeast _ :: rest => wellFramed tEh rest
  | .get _ _ :: rest => wellFramed tEh rest
  | .adc _ _ :: rest => wellFramed tEh rest
  | .cfg _ _ _ :: rest => wellFramed tEh rest
  | .cb _ :: rest => wellFramed tEh rest
  | .cbDone _ :: rest => wellFramed tEh rest

/-- The levels of the eight data lines, D0 first. -/
def Lines.dataLevels (ls : Lines) : List Bool :=
  [ls.d0, ls.d1, ls.d2, ls.d3, ls.d4, ls.d5, ls.d6, ls.d7]

/-- The frame word on the lines: `{RS, D7, ..., D0}` (spec/30_encoding.md R100). -/
def Lines.word (ls : Lines) : BitVec 9 :=
  BitVec.cons ls.rs (BitVec.ofBoolListBE [ls.d7, ls.d6, ls.d5, ls.d4, ls.d3, ls.d2, ls.d1, ls.d0])

/-- The frame sequence of a trace that starts with the given levels: the frame word at every
falling edge of `E` (spec/00_scope.md R17). -/
def frameSequence (ls : Lines) : List Entry → List (BitVec 9)
  | [] => []
  | e :: rest =>
    if ls.e && !(ls.apply e).e then ls.word :: frameSequence (ls.apply e) rest
    else frameSequence (ls.apply e) rest

/-- The least time a trace takes: the sum of its lower bounds (spec/70_reset_and_hazards.md R345). -/
def leastDuration : List Entry → Duration
  | [] => 0
  | .holdAtLeast t :: rest => t + leastDuration rest
  | .set _ _ :: rest => leastDuration rest
  | .get _ _ :: rest => leastDuration rest
  | .adc _ _ :: rest => leastDuration rest
  | .cfg _ _ _ :: rest => leastDuration rest
  | .cb _ :: rest => leastDuration rest
  | .cbDone _ :: rest => leastDuration rest

/-! ## Polling sequences -/

/-- One BTN_POLL issued by the host whose read gives `level` and whose callback, if its window
opens, returns at once. -/
def pollOnce (i : Nat) (s : State) (level : Bool) : State :=
  match exec (.btnPoll i) { s with levels := [some level] } with
  | .next t =>
    match t.paused with
    | some p => t.closeWindow p
    | none => t
  | .fault _ => s
  | .refused _ => s

/-- The number of rising edges of a sampled sequence that follows the level `before`
(spec/44_button.md R219). -/
def risingEdges (before : Bool) : List Bool → Nat
  | [] => 0
  | v :: rest => (if v && !before then 1 else 0) + risingEdges v rest

/-- One POT_POLL issued by the host whose read gives `raw` and whose callback, if its window opens,
returns at once. -/
def samplePoll (j : Nat) (s : State) (raw : Nat) : State :=
  match exec (.potPoll j) { s with samples := [some raw] } with
  | .next t =>
    match t.paused with
    | some p => t.closeWindow p
    | none => t
  | .fault _ => s
  | .refused _ => s

/-- The number of changes of a sequence of values that follows the value `before`
(spec/45_pot.md R244). -/
def valueChanges (before : Option Nat) : List Nat → Nat
  | [] => 0
  | q :: rest => (if before ≠ some q then 1 else 0) + valueChanges (some q) rest

/-! ## Contexts -/

/-- The block, not the host, is about to act: RUN is active, no window is open, and no block reset
comes (spec/60_exceptions.md R297). -/
def State.sequencing (s : State) : Prop :=
  s.seqActive = true ∧ s.cbDepth = 0 ∧ s.pending.head? ≠ some .blockReset

/-- A poll of `d` is admitted: the host is idle, or RUN is at `d` (spec/44_button.md R216, R225). -/
def State.pollable (s : State) (d : Device) : Prop :=
  s.cbDepth = 0 ∧ (s.seqActive = true → s.registry[s.passIdx]? = some d)

/-- The host is idle (spec/60_exceptions.md R297). -/
def State.hostIdle (s : State) : Prop := s.seqActive = false ∧ s.cbDepth = 0

/-- A construction is admitted: the host is idle and no QUIT performs its actions
(spec/20_memory.md R89, spec/60_exceptions.md R297). -/
def State.constructible (s : State) : Prop := s.hostIdle ∧ s.inQuit = false

/-- The device has been constructed. -/
def State.devicePresent (s : State) : Device → Bool
  | .btn i => (s.btns[i]?.map Btn.present).getD false
  | .pot j => (s.pots[j]?.map Pot.present).getD false

/-- "no two devices may address the same physical line" (spec/10_state.md R55), a host obligation
that the block does not check (log 19). -/
def State.pinsDistinct (s : State) : Prop :=
  ((if s.lcdPresent then s.lcdPins else [])
    ++ (s.btns.filter Btn.present).map Btn.pin ++ (s.pots.filter Pot.present).map Pot.pin).Nodup

/-! ## What holds between two steps -/

/-- What holds of the block between any two steps. -/
structure Inv (s : State) : Prop where
  /-- Outside a frame `line[E]` is 0 (spec/40_lcd_frame.md R144). -/
  enableLow : s.lines.e = false
  /-- No wait is in progress (spec/10_state.md R56, R57). -/
  timersIdle : s.enableTimer = none ∧ s.buttonTimer = none
  /-- No QUIT is in progress (log 14). -/
  outsideQuit : s.inQuit = false
  /-- `cb_depth` counts the one window that can be open (spec/60_exceptions.md R299). -/
  windowDepth : s.cbDepth = if s.paused.isSome then 1 else 0
  /-- One shutdown action per constructed LCD (spec/10_state.md R52). -/
  shutdown : s.shutdownActions = if s.lcdPresent then [.teardown] else []
  /-- Ten pins once the LCD is constructed (spec/10_state.md R39). -/
  tenPins : s.lcdPresent = true → s.lcdPins.length = 10
  /-- `pass_idx` is 0 whenever RUN is not in progress (spec/10_state.md R50). -/
  idleIndex : s.seqActive = false → s.passIdx = 0
  /-- `pass_idx` is an index into `registry` (spec/10_state.md R50). -/
  indexInRange : s.passIdx < s.registry.length ∨ s.passIdx = 0
  /-- `registry` holds exactly the constructed devices (spec/10_state.md R49, R123). -/
  registered : ∀ d, d ∈ s.registry ↔ s.devicePresent d = true
  /-- each of them once (spec/10_state.md R49) -/
  registeredOnce : s.registry.Nodup
  /-- every `repeat_interval[i]` is a duration of at least 0 (spec/10_state.md R63) -/
  intervals : ∀ b ∈ s.btns, 0 ≤ b.repeatInterval
  /-- every `last_value[j]` is in 0..100 or `none` (spec/10_state.md R63) -/
  lastInRange : ∀ p ∈ s.pots, ∀ q, p.lastValue = some q → q ≤ 100
  /-- and `none` only under `POT_INIT_MODE = none` (spec/10_state.md R63) -/
  lastNone : ∀ p ∈ s.pots, p.present = true → p.lastValue = none →
    s.cfg.potInitMode = .noValue
  /-- the value a paused POT_POLL still stores is in 0..100 (spec/45_pot.md R237) -/
  pausedInRange : ∀ j q, s.paused = some (.potPoll j q) → q ≤ 100
  /-- a poll paused during RUN is that of the device at `pass_idx` (spec/46_sequencer.md R261) -/
  pausedCurrent : ∀ p, s.paused = some p → s.seqActive = true →
    s.registry[s.passIdx]? = some p.device

end Sys2Proof.Machine
end

