-- ==== Sys2Proof/Certificates/Slice0/Obligations.lean ====
section
/-! DEFINITION. The statements for the provers, each about every state and every operand its hypotheses admit. -/

open Sys2Proof Sys2Proof.Machine

/-! ## Encoding -/

/-- Decoding the encoding of any operation gives it back, every operand at every value
(spec/30_encoding.md R108, R111, R115, R116). -/
def Obligations.DecodeOfEncodeIsTheOperation : Prop :=
  ∀ i : Instr, decode (encode i) = .ok i

/-- A word that decodes is the encoding of what it decodes to: no two words share an operation
(spec/30_encoding.md R108, R111, R116). -/
def Obligations.EncodeOfDecodeIsTheWord : Prop :=
  ∀ (w : HostWord) (i : Instr), decode w = .ok i → encode i = w

/-- Eight words of spec/opcode_table.json decode to their rows, and the unassigned selector 0x1B decodes
to none (spec/30_encoding.md R108, R111, R116). That a table word stands for zero operands is the model's
choice (log 4). -/
def Obligations.TableWordsDecodeToTheirRows : Prop :=
  decodeTableWord 8 0x00 = some (.lcdInit (List.replicate 10 0) none)
    ∧ decodeTableWord 8 0x08 = some .clear
    ∧ decodeTableWord 8 0x13 = some (.btnInit 0 0 false none)
    ∧ decodeTableWord 8 0x17 = some (.potPoll 0)
    ∧ decodeTableWord 8 0x19 = some .quit
    ∧ decodeTableWord 8 0x1B = none
    ∧ decodeTableWord 16 0x00C = some .frameBlinkOff
    ∧ decodeTableWord 16 0x038 = some .frameFont5x7
    ∧ decodeTableWord 16 0x141 = some (.frameData 0x41)

/-- A selector from 0x1B to 0xFF, whatever follows it, is refused when the host presents it
(spec/30_encoding.md R116, spec/93_implementation_defined.md section 2, item 12). -/
def Obligations.UnassignedSelectorsAreRefused : Prop :=
  ∀ (sel : BitVec 8) (args : List Operand) (rest : List HostAction) (s : State),
    0x1B ≤ sel.toNat → s.hostHasControl = true → s.pending = .word (.op sel args) :: rest →
    step s = .refused (.undecodable (.unassignedSelector sel))

/-- Every data frame word is a data frame of its byte (spec/30_encoding.md R111), and a command frame
word outside the eleven values of R108 does not decode. That it does not decode is the model's choice
(log 5); R113 only says that such a byte has no name. -/
def Obligations.FrameWordsDecodeByRegisterSelect : Prop :=
  (∀ c : Byte, decode (.frame (0x100 ||| c.setWidth 9)) = .ok (.frameData c))
    ∧ ∀ w : BitVec 9, w.toNat < 0x100 →
      w.toNat ∉ [0x01, 0x02, 0x06, 0x08, 0x0C, 0x0F, 0x10, 0x14, 0x18, 0x1C, 0x38] →
      decode (.frame w) = .error (.unnamedFrame w)

/-! ## The step -/

/-- When the host has control and presents a word that decodes to `i`, the step is `exec i` on the
state with that word taken off (spec/00_scope.md R23, spec/20_memory.md R89; log 2). -/
def Obligations.StepPerformsThePresentedOperation : Prop :=
  ∀ (w : HostWord) (rest : List HostAction) (i : Instr) (s : State),
    s.hostHasControl = true → s.pending = .word w :: rest → decode w = .ok i →
    step s = exec i { s with pending := rest }

/-- While RUN is active and no window is open, the step polls the device at `pass_idx`
(spec/46_sequencer.md R261). -/
def Obligations.StepPollsTheDeviceAtPassIndex : Prop :=
  ∀ s : State, s.sequencing →
    (∀ i, s.registry[s.passIdx]? = some (.btn i) → step s = exec (.btnPoll i) s)
      ∧ ∀ j, s.registry[s.passIdx]? = some (.pot j) → step s = exec (.potPoll j) s

/-- With nothing pending, a block whose host has control waits (spec/10_state.md R65; log 18); RUN
with an empty `registry` and `running` true never returns and does nothing
(spec/46_sequencer.md R265 case (b)). -/
def Obligations.BlockWaitsWithNothingToDo : Prop :=
  (∀ s : State, s.hostHasControl = true → s.pending = [] → step s = .next s)
    ∧ ∀ s : State, s.sequencing → s.registry = [] → s.passIdx = 0 → s.running = true →
      step s = .next s

/-- A block reset, whoever has control, gives every element its reset value with no frame sent;
parameters, instance counts and the outside world stay (spec/10_state.md R64, R66; log 9, log 16). -/
def Obligations.BlockResetRestoresEveryElement : Prop :=
  ∀ (rest : List HostAction) (s : State), s.pending = .blockReset :: rest →
    step s = .next { State.reset with
      cfg := s.cfg
      btns := List.replicate s.btns.length {}
      pots := List.replicate s.pots.length {}
      pending := rest
      levels := s.levels
      samples := s.samples
      freeIdx := s.freeIdx }

/-- The reset values the spec gives (spec/10_state.md R64). -/
def Obligations.ResetValuesOfTheSpec : Prop :=
  let s := State.reset
  s.lines = { d7 := false, d6 := false, d5 := false, d4 := false, d3 := false, d2 := false
              d1 := false, d0 := false, e := false, rs := false }
    ∧ s.lcdPresent = false
    ∧ (∀ d, s.devicePresent d = false)
    ∧ s.registry = [] ∧ s.shutdownActions = [] ∧ s.running = true
    ∧ s.seqActive = false ∧ s.passIdx = 0 ∧ s.cbDepth = 0
    ∧ s.enableTimer = none ∧ s.buttonTimer = none ∧ s.trace = []

/-! ## LCD frames -/

/-- Line `Dk` is set to `(b >> k) & 1` by every frame, SEND_COMMAND's and SEND_DATA's among them
(spec/20_memory.md R77). -/
def Obligations.DataLinesCarryTheShiftedBits : Prop :=
  (∀ (s : State) (rs : Bool) (b : Byte),
      (s.frame rs b).lines.dataLevels = (List.range 8).map (fun k => (b >>> k) &&& 1 == 1))
    ∧ ∀ (b : Int) (s t : State),
      exec (.sendCommand b) s = .next t ∨ exec (.sendData b) s = .next t →
      t.lines.dataLevels = (List.range 8).map (fun k => (b.toNat >>> k) &&& 1 == 1)

/-- SEND_COMMAND (spec/40_lcd_frame.md R140, R141): its selector (the spec's decision D12); the one
command frame it sends, entry by entry, for every byte; nothing else written but the reply to the host
(log 1); refused without an LCD (decisions D20 and D22, spec/10_state.md R38, spec/60_exceptions.md
R292). -/
def Obligations.SendCommandSendsOneCommandFrame : Prop :=
  ∀ (b : Int) (s : State), 0 ≤ b → b ≤ 255 → s.hostHasControl = true →
    encode (.sendCommand b) = .op 0x01 [.byte b]
      ∧ (s.lcdPresent = true → exec (.sendCommand b) s = .next
          { s.afterFrames [(false, BitVec.ofInt 8 b)] with replies := s.replies ++ [.done] })
      ∧ (s.lcdPresent = false → exec (.sendCommand b) s = .refused .lcdAbsent)

/-- SEND_DATA (spec/40_lcd_frame.md R146): the same framing with RS high. The selector is the spec's
decision D12, the reply log 1, the refusal without an LCD decisions D20 and D22 (spec/10_state.md R38,
spec/60_exceptions.md R292). -/
def Obligations.SendDataSendsOneDataFrame : Prop :=
  ∀ (b : Int) (s : State), 0 ≤ b → b ≤ 255 → s.hostHasControl = true →
    encode (.sendData b) = .op 0x02 [.byte b]
      ∧ (s.lcdPresent = true → exec (.sendData b) s = .next
          { s.afterFrames [(true, BitVec.ofInt 8 b)] with replies := s.replies ++ [.done] })
      ∧ (s.lcdPresent = false → exec (.sendData b) s = .refused .lcdAbsent)

/-- The ten single-opcode operations that write no counter: each has its selector (the spec's decision
D12), sends its one command frame and writes nothing else but the reply (log 1)
(spec/42_lcd_simple.md R180, R181, R184 to R191). The opcodes are the spec's decision D9, the byte of
CURSOR_ON decision D8 (log 22). -/
def Obligations.SingleOpcodeOperationsSendTheirByte : Prop :=
  ∀ (i : Instr) (sel : BitVec 8) (b : Byte),
    (i, sel, b) ∈ [(Instr.lcdOn, (0x06 : BitVec 8), (0x0F : Byte)), (.lcdOff, 0x07, 0x08),
      (.cursorOn, 0x0A, 0x0F), (.cursorOff, 0x0B, 0x0C), (.showCursor, 0x0C, 0x0F),
      (.hideCursor, 0x0D, 0x0C), (.blinkOn, 0x0E, 0x0F), (.blinkOff, 0x0F, 0x0C),
      (.scrollLeft, 0x10, 0x18), (.scrollRight, 0x11, 0x1C)] →
    encode i = .op sel []
      ∧ ∀ s : State, s.hostHasControl = true → s.lcdPresent = true →
        exec i s = .next { s.afterFrames [(false, b)] with replies := s.replies ++ [.done] }

/-- CLEAR and HOME send their frame and set the counter to 1 whatever it held
(spec/42_lcd_simple.md R182, R183). -/
def Obligations.ClearAndHomeResetTheCounter : Prop :=
  ∀ s : State, s.hostHasControl = true → s.lcdPresent = true →
    (encode .clear = .op 0x08 [] ∧ exec .clear s = .next
        { s.afterFrames [(false, 0x01)] with
          cursorPosition := 1, replies := s.replies ++ [.done] })
      ∧ encode .home = .op 0x09 [] ∧ exec .home s = .next
        { s.afterFrames [(false, 0x02)] with
          cursorPosition := 1, replies := s.replies ++ [.done] }

/-- A command FRAME9 row of the opcode table is one frame with that byte (spec/30_encoding.md R108,
spec/40_lcd_frame.md R141), and is refused without an LCD. That the row is an operation, with the
admission of SEND_COMMAND, is the model's choice (log 5). -/
def Obligations.CommandFrameRowsSendTheirByte : Prop :=
  ∀ (i : Instr) (b : Byte),
    (i, b) ∈ [(Instr.frameClearDisplay, (0x01 : Byte)), (.frameMoveHome, 0x02),
      (.frameEntryMode, 0x06), (.frameTurnOff, 0x08), (.frameBlinkOff, 0x0C),
      (.frameBlinkOn, 0x0F), (.frameMoveLeft, 0x10), (.frameMoveRight, 0x14),
      (.frameScrollLeft, 0x18), (.frameScrollRight, 0x1C), (.frameFont5x7, 0x38)] →
    encode i = .frame (b.setWidth 9)
      ∧ ∀ s : State, s.hostHasControl = true →
        (s.lcdPresent = true →
          exec i s = .next { s.afterFrames [(false, b)] with replies := s.replies ++ [.done] })
          ∧ (s.lcdPresent = false → exec i s = .refused .lcdAbsent)

/-- The data FRAME9 row is one frame with RS high (spec/30_encoding.md R111, spec/40_lcd_frame.md
R141), and is refused without an LCD. That the row is an operation, with the admission of SEND_DATA, is
the model's choice (log 5). -/
def Obligations.DataFrameRowSendsItsByte : Prop :=
  ∀ (d : Byte) (s : State), s.hostHasControl = true →
    encode (.frameData d) = .frame (0x100 ||| d.setWidth 9)
      ∧ (s.lcdPresent = true → exec (.frameData d) s
        = .next { s.afterFrames [(true, d)] with replies := s.replies ++ [.done] })
      ∧ (s.lcdPresent = false → exec (.frameData d) s = .refused .lcdAbsent)

/-! ## LCD cursor -/

/-- WRITE (spec/41_lcd_cursor.md R160): one data frame a character, in order, and the counter
increased by the length. The selector is the spec's decision D12, the reply log 1. -/
def Obligations.WriteSendsEveryCharacterAndCounts : Prop :=
  ∀ (text : List Nat) (s : State), (∀ c ∈ text, c ≤ 255) →
    s.hostHasControl = true → s.lcdPresent = true →
    encode (.write text) = .op 0x03 [.text text]
      ∧ exec (.write text) s = .next
        { s.afterFrames (text.map (fun c => (true, BitVec.ofNat 8 c))) with
          cursorPosition := s.cursorPosition + text.length
          replies := s.replies ++ [.done] }

/-- MOVE_CURSOR (spec/41_lcd_cursor.md R163): `abs(n)` equal command frames, right for positive
`n`, left for negative `n`, none for 0; the counter adjusted by `n`. The selector is the spec's decision
D12, the reply log 1. -/
def Obligations.MoveCursorSendsOneFrameACell : Prop :=
  ∀ (n : Int) (s : State), s.hostHasControl = true → s.lcdPresent = true →
    encode (.moveCursor n) = .op 0x04 [.int n]
      ∧ exec (.moveCursor n) s = .next
        { s.afterFrames (List.replicate n.natAbs (false, if 0 < n then 0x14 else 0x10)) with
          cursorPosition := s.cursorPosition + n
          replies := s.replies ++ [.done] }

/-- NEW_LINE, its selector and its effect (spec/41_lcd_cursor.md R166 to R168): `max(0, 41 -
cursor_position)` MoveRight frames; the counter is kept in the default mode and becomes 41 in the
other when a frame was sent. Both modes are the spec's decisions D6 and D7. -/
def Obligations.NewLineMovesToTheEndOfTheRow : Prop :=
  encode .newLine = .op 0x05 []
    ∧ ∀ s : State, s.hostHasControl = true → s.lcdPresent = true →
    exec .newLine s = .next
      { s.afterFrames (List.replicate (41 - s.cursorPosition).toNat (false, 0x14)) with
        cursorPosition :=
          if s.cfg.newlineCpMode = .advance ∧ s.cursorPosition < 41 then 41
          else s.cursorPosition
        replies := s.replies ++ [.done] }

/-- RD_CURSOR reports the counter and writes nothing else (spec/41_lcd_cursor.md R170; the reply is
the model's, log 1). -/
def Obligations.ReadCursorReportsTheCounter : Prop :=
  encode .rdCursor = .op 0x1A []
    ∧ ∀ s : State, s.hostHasControl = true → s.lcdPresent = true →
    exec .rdCursor s = .next { s with replies := s.replies ++ [.cursor s.cursorPosition] }

/-- `cursor_position` is written by exactly the operations the spec lists: any other operation
keeps it, and NEW_LINE keeps it in the default mode (spec/10_state.md R35). -/
def Obligations.OnlyListedOperationsWriteTheCounter : Prop :=
  ∀ (i : Instr) (s t : State), exec i s = .next t → t.cursorPosition ≠ s.cursorPosition →
    i ∈ [.clear, .home, .teardown, .quit] ∨ (∃ pins text, i = .lcdInit pins text)
      ∨ (∃ text, i = .write text) ∨ (∃ n, i = .moveCursor n)
      ∨ (i = .newLine ∧ s.cfg.newlineCpMode = .advance)

/-! ## LCD construction, teardown -/

/-- LCD_INIT with ten accepted pins: ten `Cfg` entries in list order, then the four init frames and
the text; the LCD present, its pins recorded, TEARDOWN registered, the counter 1 plus the length
(spec/43_lcd_init_teardown.md R201, R202), and the pin at each position of the list is the line of that
position (spec/20_memory.md R84). The order of the `Cfg` entries is decision D25. -/
def Obligations.LcdInitConstructsTheLcd : Prop :=
  ∀ (pins : List Pin) (text : Option (List Nat)) (s : State),
    s.constructible → s.lcdPresent = false → pins.length = 10 → (∀ c ∈ text.getD [], c ≤ 255) →
    (∀ p ∈ pins, s.cfg.pinOk .output p = true) →
    encode (.lcdInit pins text) = .op 0x00 [.pins pins, text.elim .absent .text]
      ∧ exec (.lcdInit pins text) s = .next
      { ({ s with trace := s.trace ++ pins.map (fun p => Entry.cfg .output p none) }).afterFrames
          ([(false, 0x38), (false, 0x0F), (false, 0x06), (false, 0x01)]
            ++ (text.getD []).map (fun c => (true, BitVec.ofNat 8 c))) with
        lcdPresent := true
        lcdPins := pins
        cursorPosition := 1 + (text.getD []).length
        shutdownActions := s.shutdownActions ++ [.teardown]
        replies := s.replies ++ [.done] }
      ∧ ∀ t, exec (.lcdInit pins text) s = .next t → ∀ (k : Nat) (l : Line) (p : Pin),
        [Line.d7, .d6, .d5, .d4, .d3, .d2, .d1, .d0, .e, .rs][k]? = some l →
        pins[k]? = some p → t.pinOf l = some p

/-- The frame sequence of LCD_INIT, read off the trace at the falling edges of `E`: the four init
commands, then the characters (spec/43_lcd_init_teardown.md R202, spec/00_scope.md R17). -/
def Obligations.LcdInitFrameSequence : Prop :=
  ∀ (pins : List Pin) (text : Option (List Nat)) (s : State),
    s.constructible → s.lcdPresent = false → pins.length = 10 → (∀ c ∈ text.getD [], c ≤ 255) →
    (∀ p ∈ pins, s.cfg.pinOk .output p = true) → s.lines.e = false →
    ∃ t es, exec (.lcdInit pins text) s = .next t ∧ t.trace = s.trace ++ es
      ∧ frameSequence s.lines es
        = [0x038, 0x00F, 0x006, 0x001] ++ (text.getD []).map (fun c => BitVec.ofNat 9 (0x100 + c))

/-- A pin list that is not ten long, or that holds a rejected pin, ends LCD_INIT with ConfigFault:
nothing is constructed, no frame is sent, and only the `Cfg` entries of the pins before the rejected
one stay (spec/43_lcd_init_teardown.md R203, spec/60_exceptions.md R286, R287; decision D19). -/
def Obligations.LcdInitConfigFaultHasNoPartialEffect : Prop :=
  ∀ (pins : List Pin) (text : Option (List Nat)) (s : State),
    s.constructible → s.lcdPresent = false → (∀ c ∈ text.getD [], c ≤ 255) →
    (pins.length ≠ 10 → exec (.lcdInit pins text) s = .next
        { s with replies := s.replies ++ [.failed (.configFault .lcd .length)] })
      ∧ ∀ (before after : List Pin) (p : Pin), pins.length = 10 → pins = before ++ p :: after →
        (∀ q ∈ before, s.cfg.pinOk .output q = true) → s.cfg.pinOk .output p = false →
        exec (.lcdInit pins text) s = .next
          { s with
            trace := s.trace ++ before.map (fun q => Entry.cfg .output q none)
            replies := s.replies ++ [.failed (.configFault .lcd (.pin p))] }

/-- TEARDOWN has its selector; inside a QUIT it is CLEAR then OFF; outside one it is refused,
whoever asks (spec/43_lcd_init_teardown.md R205, spec/60_exceptions.md R297; log 14). -/
def Obligations.TeardownClearsThenTurnsOff : Prop :=
  encode .teardown = .op 0x12 [] ∧ ∀ s : State,
    (s.inQuit = true → exec .teardown s
        = .next { s.afterFrames [(false, 0x01), (false, 0x08)] with cursorPosition := 1 })
      ∧ (s.inQuit = false → exec .teardown s = .refused .teardownNotIssuable)

/-- An LCD_INIT that constructs the LCD records its ordered list of ten pins, position by position the
lines D7..D0, E, RS, and no operation changes `lcd_pins` after it (spec/10_state.md R39). -/
def Obligations.LcdPinsAreRecordedAndFixed : Prop :=
  (∀ (pins : List Pin) (text : Option (List Nat)) (s t : State),
      exec (.lcdInit pins text) s = .next t → t.lcdPresent = true →
      t.lcdPins = pins ∧ pins.length = 10
        ∧ ∀ (k : Nat) (l : Line) (p : Pin),
          [Line.d7, .d6, .d5, .d4, .d3, .d2, .d1, .d0, .e, .rs][k]? = some l →
          pins[k]? = some p → t.pinOf l = some p)
    ∧ ∀ (i : Instr) (s t : State), exec i s = .next t → s.lcdPresent = true →
      t.lcdPins = s.lcdPins

/-- Once the LCD is constructed no operation changes its pins (spec/10_state.md R39), takes it away
(spec/43_lcd_init_teardown.md R209) or registers a second teardown. -/
def Obligations.LcdStaysAsConstructed : Prop :=
  ∀ (i : Instr) (s t : State), exec i s = .next t → s.lcdPresent = true →
    t.lcdPresent = true ∧ t.lcdPins = s.lcdPins ∧ t.shutdownActions = s.shutdownActions

/-! ## Button -/

/-- BTN_INIT with an accepted pin and a read that succeeds (spec/44_button.md R215): the instance
holds the pin, the level read, the callback flag and the interval, and is registered last. The
order of the steps is decision D25. -/
def Obligations.BtnInitConstructsTheButton : Prop :=
  ∀ (i : Nat) (pin : Pin) (cb : Bool) (interval : Option Duration) (level : Bool) (b : Btn)
    (s : State),
    s.constructible → s.btns[i]? = some b → b.present = false → 0 ≤ interval.getD 100 →
    s.cfg.pinOk .input pin = true → s.levelAnswer i = some level →
    encode (.btnInit i pin cb interval)
        = .op 0x13 [.index i, .pin pin, .callback cb, interval.elim .absent .interval]
      ∧ exec (.btnInit i pin cb interval) s = .next
      { s.takeLevel with
        trace := s.trace ++ [.cfg .input pin (some (s.cfg.pullOf i)), .get i (some level)]
        btns := s.btns.set i
          { present := true, pin := pin, pressed := level, cb := cb
            repeatInterval := interval.getD 100 }
        registry := s.registry ++ [.btn i]
        replies := s.replies ++ [.done] }

/-- A BTN_INIT or POT_INIT whose pin is rejected, or whose initial read fails, constructs nothing and
reports the fault (spec/44_button.md R215, spec/45_pot.md R235, spec/60_exceptions.md R286, R290;
decision D18; log 12, log 25). -/
def Obligations.DeviceInitFaultHasNoPartialEffect : Prop :=
  (∀ (i : Nat) (pin : Pin) (cb : Bool) (interval : Option Duration) (b : Btn) (s : State),
    s.constructible → s.btns[i]? = some b → b.present = false → 0 ≤ interval.getD 100 →
    (s.cfg.pinOk .input pin = false → exec (.btnInit i pin cb interval) s = .next
        { s with replies := s.replies ++ [.failed (.configFault (.btn i) (.pin pin))] })
      ∧ (s.cfg.pinOk .input pin = true → s.levelAnswer i = none →
        exec (.btnInit i pin cb interval) s = .next
          { s.takeLevel with
            trace := s.trace ++ [.cfg .input pin (some (s.cfg.pullOf i)), .get i none]
            replies := s.replies ++ [.failed (.pollFault (.btn i))] }))
    ∧ ∀ (j : Nat) (pin : Pin) (cb : Bool) (p : Pot) (s : State),
    s.constructible → s.pots[j]? = some p → p.present = false →
    (s.cfg.pinOk .analog pin = false → exec (.potInit j pin cb) s = .next
        { s with replies := s.replies ++ [.failed (.configFault (.pot j) (.pin pin))] })
      ∧ (s.cfg.pinOk .analog pin = true → s.cfg.potInitMode = .sample →
        s.sampleAnswer j = none → exec (.potInit j pin cb) s = .next
          { s.takeSample with
            trace := s.trace ++ [.cfg .analog pin none, .adc j none]
            replies := s.replies ++ [.failed (.pollFault (.pot j))] })

/-- BTN_POLL (spec/44_button.md R216): exactly one read; a high reading of a released button sets
the latch and then opens the window if there is a callback; a high reading of a pressed one changes
nothing; a low reading clears the latch and then waits. The failing read is the PollFault of
spec/60_exceptions.md R289 and R290 (decision D18); the window and the button without a callback are
decision D16 (spec/44_button.md R226, spec/60_exceptions.md R296); the record of the paused poll is the
model's (log 15). -/
def Obligations.BtnPollFollowsTheTransitionTable : Prop :=
  ∀ (i : Nat) (b : Btn) (s : State), s.pollable (.btn i) → s.btns[i]? = some b →
    b.present = true →
    encode (.btnPoll i) = .op 0x14 [.index i]
      ∧ (s.levelAnswer i = some true → b.pressed = false → b.cb = true →
        exec (.btnPoll i) s = .next
          { s.takeLevel with
            btns := s.btns.set i { b with pressed := true }
            trace := s.trace ++ [.get i (some true), .cb (.btn i)]
            cbDepth := 1
            paused := some (.btnPoll i) })
      ∧ (s.levelAnswer i = some true → (b.pressed = true ∨ b.cb = false) →
        exec (.btnPoll i) s = .next (State.finishPoll
          { s.takeLevel with
            btns := s.btns.set i { b with pressed := true }
            trace := s.trace ++ [.get i (some true)] }))
      ∧ (s.levelAnswer i = some false →
        exec (.btnPoll i) s = .next (State.finishPoll
          { s.takeLevel with
            btns := s.btns.set i { b with pressed := false }
            buttonTimer := none
            trace := s.trace ++ [.get i (some false), .holdAtLeast b.repeatInterval] }))
      ∧ (s.levelAnswer i = none →
        exec (.btnPoll i) s = .next (State.pollFault
          { s.takeLevel with trace := s.trace ++ [.get i none] } (.btn i)))

/-- Over any sequence of sampled levels, polled by the host one after another with callbacks that
return at once, the windows a button opens are as many as the rising edges of the sequence that begins
with its latch (spec/44_button.md R219). -/
def Obligations.ButtonFiresOncePerRisingEdge : Prop :=
  ∀ (i : Nat) (b : Btn) (levels : List Bool) (s : State),
    s.hostIdle → s.paused = none → s.btns[i]? = some b → b.present = true → b.cb = true →
    (levels.foldl (pollOnce i) s).trace.count (.cb (.btn i))
      = s.trace.count (.cb (.btn i)) + risingEdges b.pressed levels

/-- Nothing but BTN_INIT and BTN_POLL of the same instance writes a button
(spec/44_button.md R227). -/
def Obligations.OnlyItsOwnOperationsWriteAButton : Prop :=
  ∀ (i : Instr) (k : Nat) (s t : State), exec i s = .next t → t.btns[k]? ≠ s.btns[k]? →
    i = .btnPoll k ∨ ∃ pin cb interval, i = .btnInit k pin cb interval

/-! ## Potentiometer -/

/-- The value of a sample, at every width: it lies in 0..100, is 0 at 0 and 100 at full scale, and
reaches `k` exactly at the threshold `T_k` (spec/45_pot.md R237, R238, R249). -/
def Obligations.PotValueCrossesAtTheThresholds : Prop :=
  ∀ (c : Config) (raw : Nat), 1 ≤ c.adcBits → raw ≤ 2 ^ c.adcBits - 1 →
    potQ c raw ≤ 100
      ∧ (raw = 0 → potQ c raw = 0)
      ∧ (raw = 2 ^ c.adcBits - 1 → potQ c raw = 100)
      ∧ ∀ k, 1 ≤ k → k ≤ 100 →
        (k ≤ potQ c raw ↔ ((2 * k - 1) * (2 ^ c.adcBits - 1) + 199) / 200 ≤ raw)

/-- The value of a sample is the strictly nearest integer to `100 * raw / FULL_SCALE` (both sides
multiplied by `FULL_SCALE`), at every width: no sample lies half-way between two integers, so the
rounding direction at ties never matters (spec/45_pot.md R237, decision D11). -/
def Obligations.PotValueHasNoTies : Prop :=
  ∀ (c : Config) (raw : Nat), 1 ≤ c.adcBits →
    (∀ k : Int, k ≠ potQ c raw →
      |100 * (raw : Int) - potQ c raw * fullScale c| < |100 * (raw : Int) - k * fullScale c|)
      ∧ ∀ k : Nat, 200 * raw ≠ (2 * k + 1) * fullScale c

/-- POT_INIT with an accepted pin (spec/45_pot.md R235): one sample under the default mode, none
under the other; the instance is registered last. Both modes are decision D13. -/
def Obligations.PotInitConstructsThePotentiometer : Prop :=
  ∀ (j : Nat) (pin : Pin) (cb : Bool) (p : Pot) (s : State),
    s.constructible → s.pots[j]? = some p → p.present = false → s.cfg.pinOk .analog pin = true →
    encode (.potInit j pin cb) = .op 0x15 [.index j, .pin pin, .callback cb]
      ∧ (∀ raw, s.cfg.potInitMode = .sample → s.sampleAnswer j = some raw →
      exec (.potInit j pin cb) s = .next
        { s.takeSample with
          trace := s.trace ++ [.cfg .analog pin none, .adc j (some raw)]
          pots := s.pots.set j
            { present := true, pin := pin, lastValue := some (potQ s.cfg raw), cb := cb }
          registry := s.registry ++ [.pot j]
          replies := s.replies ++ [.done] })
      ∧ (s.cfg.potInitMode = .noValue → exec (.potInit j pin cb) s = .next
        { s with
          trace := s.trace ++ [.cfg .analog pin none]
          pots := s.pots.set j { present := true, pin := pin, lastValue := none, cb := cb }
          registry := s.registry ++ [.pot j]
          replies := s.replies ++ [.done] })

/-- POT_VALUE (spec/45_pot.md R239), at host idle and inside a window: one sample, its value
reported, no element of the block written; a failing read is reported. -/
def Obligations.PotValueReportsAFreshSample : Prop :=
  ∀ (j : Nat) (p : Pot) (s : State), s.hostHasControl = true → s.pots[j]? = some p →
    p.present = true →
    encode (.potValue j) = .op 0x16 [.index j]
      ∧ (∀ raw, s.sampleAnswer j = some raw → exec (.potValue j) s = .next
        { s.takeSample with
          trace := s.trace ++ [.adc j (some raw)]
          replies := s.replies ++ [.value ((200 * raw + (2 ^ s.cfg.adcBits - 1))
            / (2 * (2 ^ s.cfg.adcBits - 1)))] })
      ∧ (s.sampleAnswer j = none → exec (.potValue j) s = .next
        { s.takeSample with
          trace := s.trace ++ [.adc j none]
          replies := s.replies ++ [.failed (.pollFault (.pot j))] })

/-- POT_POLL (spec/45_pot.md R241): exactly one sample; a changed value opens the window of a
potentiometer with a callback, with `last_value` still old; otherwise the new value is stored. The value
is decision D11, the window and the potentiometer without a callback decision D16 (R246), the record of
the paused poll the model's (log 15). -/
def Obligations.PotPollDetectsChanges : Prop :=
  ∀ (j raw : Nat) (p : Pot) (s : State), s.pollable (.pot j) → s.pots[j]? = some p →
    p.present = true → s.sampleAnswer j = some raw →
    encode (.potPoll j) = .op 0x17 [.index j]
      ∧ (p.lastValue ≠ some (potQ s.cfg raw) → p.cb = true → exec (.potPoll j) s = .next
        { s.takeSample with
          trace := s.trace ++ [.adc j (some raw), .cb (.pot j)]
          cbDepth := 1
          paused := some (.potPoll j (potQ s.cfg raw)) })
      ∧ (p.lastValue = some (potQ s.cfg raw) ∨ p.cb = false → exec (.potPoll j) s = .next
        (State.finishPoll { s.takeSample with
          trace := s.trace ++ [.adc j (some raw)]
          pots := s.pots.set j { p with lastValue := some (potQ s.cfg raw) } }))

/-- Over any sequence of samples, polled by the host one after another with callbacks that return at
once, the windows a potentiometer opens are as many as the changes of its value (spec/45_pot.md
R244). -/
def Obligations.PotentiometerFiresOncePerChange : Prop :=
  ∀ (j : Nat) (p : Pot) (samples : List Nat) (s : State),
    s.hostIdle → s.paused = none → s.pots[j]? = some p → p.present = true → p.cb = true →
    (∀ raw ∈ samples, raw ≤ fullScale s.cfg) →
    (samples.foldl (samplePoll j) s).trace.count (.cb (.pot j))
      = s.trace.count (.cb (.pot j)) + valueChanges p.lastValue (samples.map (potQ s.cfg))

/-- Nothing but POT_INIT and POT_POLL of the same instance writes a potentiometer
(spec/45_pot.md R254). -/
def Obligations.OnlyItsOwnOperationsWriteAPotentiometer : Prop :=
  ∀ (i : Instr) (k : Nat) (s t : State), exec i s = .next t → t.pots[k]? ≠ s.pots[k]? →
    i = .potPoll k ∨ ∃ pin cb, i = .potInit k pin cb

/-! ## The callback window, failing polls -/

/-- The return of a callback closes its window and ends the paused poll; a POT_POLL first stores
its own value (spec/60_exceptions.md R298, spec/45_pot.md R242). The entry to a window is stated
with the two polls. -/
def Obligations.CallbackReturnResumesThePoll : Prop :=
  ∀ (rest : List HostAction) (s : State), s.cbDepth = 1 → s.pending = .callbackReturn :: rest →
    (∀ i, s.paused = some (.btnPoll i) → step s = .next (State.finishPoll
        { s with
          pending := rest
          trace := s.trace ++ [.cbDone (.btn i)]
          cbDepth := 0
          paused := none }))
      ∧ ∀ j q, s.paused = some (.potPoll j q) → step s = .next (State.finishPoll
        { s with
          pending := rest
          trace := s.trace ++ [.cbDone (.pot j)]
          cbDepth := 0
          paused := none
          pots := s.pots.modify j (fun p => { p with lastValue := some q }) })

/-- A failing read in a poll the host issued ends it with no state change and is reported (log 12); in
a poll performed by RUN it is absorbed: the device is skipped with no state change and nothing is
reported (spec/60_exceptions.md R290, spec/46_sequencer.md R264; decision D18). -/
def Obligations.FailingPollChangesNothing : Prop :=
  (∀ s : State, s.hostIdle →
    (∀ i b, s.btns[i]? = some b → b.present = true → s.levelAnswer i = none →
      exec (.btnPoll i) s = .next { s.takeLevel with
        trace := s.trace ++ [.get i none]
        replies := s.replies ++ [.failed (.pollFault (.btn i))] })
      ∧ ∀ j p, s.pots[j]? = some p → p.present = true → s.sampleAnswer j = none →
        exec (.potPoll j) s = .next { s.takeSample with
          trace := s.trace ++ [.adc j none]
          replies := s.replies ++ [.failed (.pollFault (.pot j))] })
    ∧ ∀ s : State, s.sequencing →
    (∀ i b, s.registry[s.passIdx]? = some (.btn i) → s.btns[i]? = some b → b.present = true →
      s.levelAnswer i = none →
      step s = .next (State.finishPoll { s.takeLevel with trace := s.trace ++ [.get i none] }))
      ∧ ∀ j p, s.registry[s.passIdx]? = some (.pot j) → s.pots[j]? = some p →
        p.present = true → s.sampleAnswer j = none →
        step s = .next (State.finishPoll
          { s.takeSample with trace := s.trace ++ [.adc j none] })

/-- A callback that fails stops the machine: nothing further happens
(spec/93_implementation_defined.md U7, treatment `stuck`; log 17). -/
def Obligations.FailingCallbackStopsTheMachine : Prop :=
  ∀ (p : Paused) (rest : List HostAction) (s : State), s.cbDepth ≠ 0 → s.paused = some p →
    s.pending = .callbackFail :: rest → step s = .fault (.callbackFailed p.device)

/-! ## Sequencer -/

/-- RUN (spec/46_sequencer.md R261, R265): with `running` true the pass loop begins at index 0; with
`running` false RUN returns at once and polls nothing. -/
def Obligations.RunBeginsOrReturnsAtOnce : Prop :=
  encode .run = .op 0x18 [] ∧ ∀ s : State, s.hostIdle →
    (s.running = true → exec .run s = .next { s with seqActive := true, passIdx := 0 })
      ∧ (s.running = false → exec .run s = .next { s with replies := s.replies ++ [.done] })

/-- Where a poll leaves the sequencer (spec/46_sequencer.md R261 to R263): at the next index within
a pass; at index 0 when the pass is over and `running` is true; RUN returned when the pass is over
and `running` is false; nowhere when the host issued the poll. -/
def Obligations.PollEndAdvancesThePass : Prop :=
  ∀ s : State, s.finishPoll =
    if s.seqActive then
      if s.passIdx + 1 < s.registry.length then { s with passIdx := s.passIdx + 1 }
      else if s.running then { s with passIdx := 0 }
      else { s with passIdx := 0, seqActive := false, replies := s.replies ++ [.done] }
    else { s with replies := s.replies ++ [.done] }

/-- During RUN a step that is no block reset keeps the device at `pass_idx` (a window is open) or
goes on to the next one of the pass, or to the first one of the next pass: every device is polled
once a pass, in registration order (spec/46_sequencer.md R262, spec/20_memory.md R92). -/
def Obligations.PassesPollInRegistrationOrder : Prop :=
  ∀ s t : State, s.sequencing → step s = .next t → t.seqActive = true →
    t.registry = s.registry
      ∧ ((t.cbDepth = 1 ∧ t.passIdx = s.passIdx)
        ∨ (t.cbDepth = 0
          ∧ t.passIdx = if s.passIdx + 1 < s.registry.length then s.passIdx + 1 else 0))

/-- RUN returns only at a pass boundary with `running` false (spec/46_sequencer.md R263). -/
def Obligations.RunReturnsOnlyAtAPassBoundary : Prop :=
  ∀ s t : State, s.seqActive = true → s.pending.head? ≠ some .blockReset → step s = .next t →
    t.seqActive = false → s.running = false ∧ s.registry.length ≤ s.passIdx + 1

/-- QUIT (spec/46_sequencer.md R266): every shutdown action runs once, in registration order, then
`running` becomes false; RUN's position is not touched. The selector is the spec's decision D12, the
admission inside a window decision D16, the cleared mark of a QUIT in progress log 14, the reply
log 1. -/
def Obligations.QuitRunsTheShutdownActions : Prop :=
  ∀ s : State, s.hostHasControl = true →
    encode .quit = .op 0x19 []
      ∧ exec .quit s = .next
        { s.afterFrames (s.shutdownActions.flatMap
            (fun | .teardown => [(false, 0x01), (false, 0x08)])) with
          cursorPosition := if s.shutdownActions = [] then s.cursorPosition else 1
          running := false
          inQuit := false
          replies := s.replies ++ [.done] }

/-- `running` is written only by QUIT, which makes it false, and by a block reset
(spec/10_state.md R51). -/
def Obligations.OnlyQuitWritesRunning : Prop :=
  ∀ s t : State, step s = .next t → s.pending.head? ≠ some .blockReset →
    t.running ≠ s.running →
    t.running = false ∧ s.hostHasControl = true ∧ s.pending.head? = some (.word (.op 0x19 []))

/-- Devices enter `registry` only by their construction, at the end, and never leave it but by a
block reset (spec/10_state.md R49, spec/46_sequencer.md R273). -/
def Obligations.RegistryOnlyGrowsByConstruction : Prop :=
  ∀ s t : State, step s = .next t → s.pending.head? ≠ some .blockReset →
    t.registry = s.registry
      ∨ ∃ d, t.registry = s.registry ++ [d] ∧ s.devicePresent d = false
        ∧ t.devicePresent d = true ∧ s.constructible

/-- `registry` and `shutdown_actions` are written by constructions only, at their ends, and not while
RUN is active nor by QUIT; a constructed device stays in `registry` (spec/10_state.md R49). A block
reset is the end of that life. -/
def Obligations.RegistriesAreAppendOnly : Prop :=
  (∀ (i : Instr) (s t : State), exec i s = .next t →
      ((∀ pins text, i ≠ .lcdInit pins text) ∧ (∀ k pin cb d, i ≠ .btnInit k pin cb d)
          ∧ ∀ k pin cb, i ≠ .potInit k pin cb) ∨ s.seqActive = true →
      t.registry = s.registry ∧ t.shutdownActions = s.shutdownActions)
    ∧ ∀ s t : State, step s = .next t → s.pending.head? ≠ some .blockReset →
      s.registry <+: t.registry ∧ s.shutdownActions <+: t.shutdownActions
        ∧ ∀ d, (s.devicePresent d = true → d ∈ s.registry) → t.devicePresent d = true →
          d ∈ t.registry

/-! ## Admission and operand types -/

/-- Inside a callback window RUN, the polls and the constructions are refused
(spec/60_exceptions.md R297; decision D26). That this is the reason reported where others hold too is
the model's choice (log 13). -/
def Obligations.WindowRefusesPollsAndConstructions : Prop :=
  ∀ (s : State) (k : Nat) (pin : Pin) (cb : Bool) (pins : List Pin) (text : Option (List Nat))
    (interval : Option Duration), s.cbDepth ≠ 0 →
    ∀ i ∈ [Instr.run, .btnPoll k, .potPoll k, .lcdInit pins text, .btnInit k pin cb interval,
      .potInit k pin cb], exec i s = .refused .insideWindow

/-- Without an LCD every LCD operation whose operands are within type is refused
(spec/10_state.md R38, spec/60_exceptions.md R292). -/
def Obligations.LcdOperationsNeedTheLcd : Prop :=
  ∀ (s : State) (b n : Int) (text : List Nat), s.hostHasControl = true → s.lcdPresent = false →
    0 ≤ b → b ≤ 255 → (∀ c ∈ text, c ≤ 255) →
    ∀ i ∈ [Instr.sendCommand b, .sendData b, .write text, .moveCursor n, .newLine, .lcdOn, .lcdOff,
      .clear, .home, .cursorOn, .cursorOff, .showCursor, .hideCursor, .blinkOn, .blinkOff,
      .scrollLeft, .scrollRight, .rdCursor], exec i s = .refused .lcdAbsent

/-- A byte outside 0..255, a character code above 255 and a negative interval are refused before
any effect (spec/30_encoding.md R114, spec/41_lcd_cursor.md R162, spec/60_exceptions.md R292). That
these are the reasons reported where others hold too is the model's choice (log 13). -/
def Obligations.OperandsOutsideTheirTypeAreRefused : Prop :=
  (∀ (b : Int) (s : State), b < 0 ∨ 255 < b →
      exec (.sendCommand b) s = .refused (.byteOutOfType b)
        ∧ exec (.sendData b) s = .refused (.byteOutOfType b))
    ∧ (∀ (text : List Nat) (c : Nat) (s : State), c ∈ text → 255 < c →
      exec (.write text) s = .refused .textOutOfType)
    ∧ (∀ (pins : List Pin) (text : List Nat) (c : Nat) (s : State), s.constructible →
      s.lcdPresent = false → c ∈ text → 255 < c →
      exec (.lcdInit pins (some text)) s = .refused .textOutOfType)
    ∧ ∀ (i : Nat) (pin : Pin) (cb : Bool) (d : Duration) (b : Btn) (s : State), s.constructible →
      s.btns[i]? = some b → b.present = false → d < 0 →
      exec (.btnInit i pin cb (some d)) s = .refused .negativeInterval

/-- A second construction, a construction inside a QUIT, an absent device and an index that does not
exist are refused (spec/60_exceptions.md R292, spec/93_implementation_defined.md section 2, items 2 to 5,
spec/20_memory.md R89). That these are the reasons reported where others hold too is the model's choice
(log 13). -/
def Obligations.LifecycleRefusals : Prop :=
  ∀ (s : State) (k : Nat) (pin : Pin) (cb : Bool) (interval : Option Duration) (pins : List Pin)
    (text : Option (List Nat)), s.hostIdle →
    (s.inQuit = true → ∀ i ∈ [Instr.lcdInit pins text, .btnInit k pin cb interval,
        .potInit k pin cb], exec i s = .refused .insideQuit)
      ∧ (s.inQuit = false →
        (s.lcdPresent = true → exec (.lcdInit pins text) s = .refused .lcdAlreadyPresent)
          ∧ (∀ b, s.btns[k]? = some b → b.present = true →
            exec (.btnInit k pin cb interval) s = .refused (.alreadyPresent (.btn k)))
          ∧ (∀ p, s.pots[k]? = some p → p.present = true →
            exec (.potInit k pin cb) s = .refused (.alreadyPresent (.pot k)))
          ∧ (s.btns.length ≤ k →
            exec (.btnInit k pin cb interval) s = .refused (.indexOutOfRange (.btn k)))
          ∧ (s.pots.length ≤ k →
            exec (.potInit k pin cb) s = .refused (.indexOutOfRange (.pot k))))
      ∧ (∀ b, s.btns[k]? = some b → b.present = false →
        exec (.btnPoll k) s = .refused (.deviceAbsent (.btn k)))
      ∧ (∀ p, s.pots[k]? = some p → p.present = false →
        exec (.potPoll k) s = .refused (.deviceAbsent (.pot k))
          ∧ exec (.potValue k) s = .refused (.deviceAbsent (.pot k)))
      ∧ (s.btns.length ≤ k → exec (.btnPoll k) s = .refused (.indexOutOfRange (.btn k)))
      ∧ (s.pots.length ≤ k →
        exec (.potPoll k) s = .refused (.indexOutOfRange (.pot k))
          ∧ exec (.potValue k) s = .refused (.indexOutOfRange (.pot k)))

/-! ## The whole machine -/

/-- The invariant of spec/10_state.md R49, R50, R52, R63 and spec/40_lcd_frame.md R144 holds after
reset. -/
def Obligations.InvariantHoldsAfterReset : Prop := Inv State.reset

/-- Every step keeps that invariant, from every state in which it holds. -/
def Obligations.EveryStepKeepsTheInvariant : Prop :=
  ∀ s t : State, Inv s → step s = .next t → Inv t

/-- No step writes a parameter or changes the number of instances (spec/00_scope.md R11). -/
def Obligations.NoStepWritesAParameter : Prop :=
  ∀ s t : State, step s = .next t →
    t.cfg = s.cfg ∧ t.btns.length = s.btns.length ∧ t.pots.length = s.pots.length

/-- Whatever the step, the trace only grows, by entries in which every line write belongs to a
complete frame with a hold of at least 4 ms, and the lines are what those entries leave: no line is
written except through a frame (spec/40_lcd_frame.md R143, R144, R145). A block reset apart. -/
def Obligations.LinesChangeOnlyThroughWholeFrames : Prop :=
  ∀ s t : State, step s = .next t → s.pending.head? ≠ some .blockReset → s.cfg.wf →
    ∃ es, t.trace = s.trace ++ es ∧ wellFramed 4 es = true ∧ t.lines = s.lines.replay es

/-- The least durations of the LCD operations (spec/70_reset_and_hazards.md R346): one `T_EH` a
frame. -/
def Obligations.LeastDurationsOfLcdOperations : Prop :=
  ∀ (s t : State) (b n : Int) (text : List Nat),
    (exec (.sendCommand b) s = .next t ∨ exec (.sendData b) s = .next t →
      leastDuration t.trace = leastDuration s.trace + s.cfg.tEh)
      ∧ (exec (.write text) s = .next t →
        leastDuration t.trace = leastDuration s.trace + text.length * s.cfg.tEh)
      ∧ (exec (.moveCursor n) s = .next t →
        leastDuration t.trace = leastDuration s.trace + n.natAbs * s.cfg.tEh)
      ∧ (exec .newLine s = .next t → leastDuration t.trace
        = leastDuration s.trace + (41 - s.cursorPosition).toNat * s.cfg.tEh)
      ∧ (exec .quit s = .next t → leastDuration t.trace
        = leastDuration s.trace + 2 * s.shutdownActions.length * s.cfg.tEh)
end

