-- ==== Sys2Proof/Laws/State.lean ====
section
/-! SUPPORT. For every named update of the state, what each field holds afterwards. -/

namespace Sys2Proof.Machine.State

/-! ### record -/

@[simp] theorem record_cfg (s : State) (es : List Entry) : (s.record es).cfg = s.cfg := rfl
@[simp] theorem record_lines (s : State) (es : List Entry) : (s.record es).lines = s.lines := rfl
@[simp] theorem record_lcdPresent (s : State) (es : List Entry) : (s.record es).lcdPresent = s.lcdPresent := rfl
@[simp] theorem record_lcdPins (s : State) (es : List Entry) : (s.record es).lcdPins = s.lcdPins := rfl
@[simp] theorem record_cursorPosition (s : State) (es : List Entry) : (s.record es).cursorPosition = s.cursorPosition := rfl
@[simp] theorem record_btns (s : State) (es : List Entry) : (s.record es).btns = s.btns := rfl
@[simp] theorem record_pots (s : State) (es : List Entry) : (s.record es).pots = s.pots := rfl
@[simp] theorem record_registry (s : State) (es : List Entry) : (s.record es).registry = s.registry := rfl
@[simp] theorem record_shutdownActions (s : State) (es : List Entry) : (s.record es).shutdownActions = s.shutdownActions := rfl
@[simp] theorem record_running (s : State) (es : List Entry) : (s.record es).running = s.running := rfl
@[simp] theorem record_seqActive (s : State) (es : List Entry) : (s.record es).seqActive = s.seqActive := rfl
@[simp] theorem record_passIdx (s : State) (es : List Entry) : (s.record es).passIdx = s.passIdx := rfl
@[simp] theorem record_cbDepth (s : State) (es : List Entry) : (s.record es).cbDepth = s.cbDepth := rfl
@[simp] theorem record_paused (s : State) (es : List Entry) : (s.record es).paused = s.paused := rfl
@[simp] theorem record_inQuit (s : State) (es : List Entry) : (s.record es).inQuit = s.inQuit := rfl
@[simp] theorem record_enableTimer (s : State) (es : List Entry) : (s.record es).enableTimer = s.enableTimer := rfl
@[simp] theorem record_buttonTimer (s : State) (es : List Entry) : (s.record es).buttonTimer = s.buttonTimer := rfl
@[simp] theorem record_trace (s : State) (es : List Entry) : (s.record es).trace = s.trace ++ es := rfl
@[simp] theorem record_replies (s : State) (es : List Entry) : (s.record es).replies = s.replies := rfl
@[simp] theorem record_pending (s : State) (es : List Entry) : (s.record es).pending = s.pending := rfl
@[simp] theorem record_levels (s : State) (es : List Entry) : (s.record es).levels = s.levels := rfl
@[simp] theorem record_samples (s : State) (es : List Entry) : (s.record es).samples = s.samples := rfl
@[simp] theorem record_freeIdx (s : State) (es : List Entry) : (s.record es).freeIdx = s.freeIdx := rfl

/-! ### report -/

@[simp] theorem report_cfg (s : State) (r : Reply) : (s.report r).cfg = s.cfg := rfl
@[simp] theorem report_lines (s : State) (r : Reply) : (s.report r).lines = s.lines := rfl
@[simp] theorem report_lcdPresent (s : State) (r : Reply) : (s.report r).lcdPresent = s.lcdPresent := rfl
@[simp] theorem report_lcdPins (s : State) (r : Reply) : (s.report r).lcdPins = s.lcdPins := rfl
@[simp] theorem report_cursorPosition (s : State) (r : Reply) : (s.report r).cursorPosition = s.cursorPosition := rfl
@[simp] theorem report_btns (s : State) (r : Reply) : (s.report r).btns = s.btns := rfl
@[simp] theorem report_pots (s : State) (r : Reply) : (s.report r).pots = s.pots := rfl
@[simp] theorem report_registry (s : State) (r : Reply) : (s.report r).registry = s.registry := rfl
@[simp] theorem report_shutdownActions (s : State) (r : Reply) : (s.report r).shutdownActions = s.shutdownActions := rfl
@[simp] theorem report_running (s : State) (r : Reply) : (s.report r).running = s.running := rfl
@[simp] theorem report_seqActive (s : State) (r : Reply) : (s.report r).seqActive = s.seqActive := rfl
@[simp] theorem report_passIdx (s : State) (r : Reply) : (s.report r).passIdx = s.passIdx := rfl
@[simp] theorem report_cbDepth (s : State) (r : Reply) : (s.report r).cbDepth = s.cbDepth := rfl
@[simp] theorem report_paused (s : State) (r : Reply) : (s.report r).paused = s.paused := rfl
@[simp] theorem report_inQuit (s : State) (r : Reply) : (s.report r).inQuit = s.inQuit := rfl
@[simp] theorem report_enableTimer (s : State) (r : Reply) : (s.report r).enableTimer = s.enableTimer := rfl
@[simp] theorem report_buttonTimer (s : State) (r : Reply) : (s.report r).buttonTimer = s.buttonTimer := rfl
@[simp] theorem report_trace (s : State) (r : Reply) : (s.report r).trace = s.trace := rfl
@[simp] theorem report_replies (s : State) (r : Reply) : (s.report r).replies = s.replies ++ [r] := rfl
@[simp] theorem report_pending (s : State) (r : Reply) : (s.report r).pending = s.pending := rfl
@[simp] theorem report_levels (s : State) (r : Reply) : (s.report r).levels = s.levels := rfl
@[simp] theorem report_samples (s : State) (r : Reply) : (s.report r).samples = s.samples := rfl
@[simp] theorem report_freeIdx (s : State) (r : Reply) : (s.report r).freeIdx = s.freeIdx := rfl

/-! ### putBtn -/

@[simp] theorem putBtn_cfg (s : State) (i : Nat) (b : Btn) : (s.putBtn i b).cfg = s.cfg := rfl
@[simp] theorem putBtn_lines (s : State) (i : Nat) (b : Btn) : (s.putBtn i b).lines = s.lines := rfl
@[simp] theorem putBtn_lcdPresent (s : State) (i : Nat) (b : Btn) : (s.putBtn i b).lcdPresent = s.lcdPresent := rfl
@[simp] theorem putBtn_lcdPins (s : State) (i : Nat) (b : Btn) : (s.putBtn i b).lcdPins = s.lcdPins := rfl
@[simp] theorem putBtn_cursorPosition (s : State) (i : Nat) (b : Btn) : (s.putBtn i b).cursorPosition = s.cursorPosition := rfl
@[simp] theorem putBtn_btns (s : State) (i : Nat) (b : Btn) : (s.putBtn i b).btns = s.btns.set i b := rfl
@[simp] theorem putBtn_pots (s : State) (i : Nat) (b : Btn) : (s.putBtn i b).pots = s.pots := rfl
@[simp] theorem putBtn_registry (s : State) (i : Nat) (b : Btn) : (s.putBtn i b).registry = s.registry := rfl
@[simp] theorem putBtn_shutdownActions (s : State) (i : Nat) (b : Btn) : (s.putBtn i b).shutdownActions = s.shutdownActions := rfl
@[simp] theorem putBtn_running (s : State) (i : Nat) (b : Btn) : (s.putBtn i b).running = s.running := rfl
@[simp] theorem putBtn_seqActive (s : State) (i : Nat) (b : Btn) : (s.putBtn i b).seqActive = s.seqActive := rfl
@[simp] theorem putBtn_passIdx (s : State) (i : Nat) (b : Btn) : (s.putBtn i b).passIdx = s.passIdx := rfl
@[simp] theorem putBtn_cbDepth (s : State) (i : Nat) (b : Btn) : (s.putBtn i b).cbDepth = s.cbDepth := rfl
@[simp] theorem putBtn_paused (s : State) (i : Nat) (b : Btn) : (s.putBtn i b).paused = s.paused := rfl
@[simp] theorem putBtn_inQuit (s : State) (i : Nat) (b : Btn) : (s.putBtn i b).inQuit = s.inQuit := rfl
@[simp] theorem putBtn_enableTimer (s : State) (i : Nat) (b : Btn) : (s.putBtn i b).enableTimer = s.enableTimer := rfl
@[simp] theorem putBtn_buttonTimer (s : State) (i : Nat) (b : Btn) : (s.putBtn i b).buttonTimer = s.buttonTimer := rfl
@[simp] theorem putBtn_trace (s : State) (i : Nat) (b : Btn) : (s.putBtn i b).trace = s.trace := rfl
@[simp] theorem putBtn_replies (s : State) (i : Nat) (b : Btn) : (s.putBtn i b).replies = s.replies := rfl
@[simp] theorem putBtn_pending (s : State) (i : Nat) (b : Btn) : (s.putBtn i b).pending = s.pending := rfl
@[simp] theorem putBtn_levels (s : State) (i : Nat) (b : Btn) : (s.putBtn i b).levels = s.levels := rfl
@[simp] theorem putBtn_samples (s : State) (i : Nat) (b : Btn) : (s.putBtn i b).samples = s.samples := rfl
@[simp] theorem putBtn_freeIdx (s : State) (i : Nat) (b : Btn) : (s.putBtn i b).freeIdx = s.freeIdx := rfl

/-! ### putPot -/

@[simp] theorem putPot_cfg (s : State) (j : Nat) (p : Pot) : (s.putPot j p).cfg = s.cfg := rfl
@[simp] theorem putPot_lines (s : State) (j : Nat) (p : Pot) : (s.putPot j p).lines = s.lines := rfl
@[simp] theorem putPot_lcdPresent (s : State) (j : Nat) (p : Pot) : (s.putPot j p).lcdPresent = s.lcdPresent := rfl
@[simp] theorem putPot_lcdPins (s : State) (j : Nat) (p : Pot) : (s.putPot j p).lcdPins = s.lcdPins := rfl
@[simp] theorem putPot_cursorPosition (s : State) (j : Nat) (p : Pot) : (s.putPot j p).cursorPosition = s.cursorPosition := rfl
@[simp] theorem putPot_btns (s : State) (j : Nat) (p : Pot) : (s.putPot j p).btns = s.btns := rfl
@[simp] theorem putPot_pots (s : State) (j : Nat) (p : Pot) : (s.putPot j p).pots = s.pots.set j p := rfl
@[simp] theorem putPot_registry (s : State) (j : Nat) (p : Pot) : (s.putPot j p).registry = s.registry := rfl
@[simp] theorem putPot_shutdownActions (s : State) (j : Nat) (p : Pot) : (s.putPot j p).shutdownActions = s.shutdownActions := rfl
@[simp] theorem putPot_running (s : State) (j : Nat) (p : Pot) : (s.putPot j p).running = s.running := rfl
@[simp] theorem putPot_seqActive (s : State) (j : Nat) (p : Pot) : (s.putPot j p).seqActive = s.seqActive := rfl
@[simp] theorem putPot_passIdx (s : State) (j : Nat) (p : Pot) : (s.putPot j p).passIdx = s.passIdx := rfl
@[simp] theorem putPot_cbDepth (s : State) (j : Nat) (p : Pot) : (s.putPot j p).cbDepth = s.cbDepth := rfl
@[simp] theorem putPot_paused (s : State) (j : Nat) (p : Pot) : (s.putPot j p).paused = s.paused := rfl
@[simp] theorem putPot_inQuit (s : State) (j : Nat) (p : Pot) : (s.putPot j p).inQuit = s.inQuit := rfl
@[simp] theorem putPot_enableTimer (s : State) (j : Nat) (p : Pot) : (s.putPot j p).enableTimer = s.enableTimer := rfl
@[simp] theorem putPot_buttonTimer (s : State) (j : Nat) (p : Pot) : (s.putPot j p).buttonTimer = s.buttonTimer := rfl
@[simp] theorem putPot_trace (s : State) (j : Nat) (p : Pot) : (s.putPot j p).trace = s.trace := rfl
@[simp] theorem putPot_replies (s : State) (j : Nat) (p : Pot) : (s.putPot j p).replies = s.replies := rfl
@[simp] theorem putPot_pending (s : State) (j : Nat) (p : Pot) : (s.putPot j p).pending = s.pending := rfl
@[simp] theorem putPot_levels (s : State) (j : Nat) (p : Pot) : (s.putPot j p).levels = s.levels := rfl
@[simp] theorem putPot_samples (s : State) (j : Nat) (p : Pot) : (s.putPot j p).samples = s.samples := rfl
@[simp] theorem putPot_freeIdx (s : State) (j : Nat) (p : Pot) : (s.putPot j p).freeIdx = s.freeIdx := rfl

/-! ### storeLast -/

@[simp] theorem storeLast_cfg (s : State) (j q : Nat) : (s.storeLast j q).cfg = s.cfg := rfl
@[simp] theorem storeLast_lines (s : State) (j q : Nat) : (s.storeLast j q).lines = s.lines := rfl
@[simp] theorem storeLast_lcdPresent (s : State) (j q : Nat) : (s.storeLast j q).lcdPresent = s.lcdPresent := rfl
@[simp] theorem storeLast_lcdPins (s : State) (j q : Nat) : (s.storeLast j q).lcdPins = s.lcdPins := rfl
@[simp] theorem storeLast_cursorPosition (s : State) (j q : Nat) : (s.storeLast j q).cursorPosition = s.cursorPosition := rfl
@[simp] theorem storeLast_btns (s : State) (j q : Nat) : (s.storeLast j q).btns = s.btns := rfl
@[simp] theorem storeLast_pots (s : State) (j q : Nat) : (s.storeLast j q).pots = s.pots.modify j (fun p => { p with lastValue := some q }) := rfl
@[simp] theorem storeLast_registry (s : State) (j q : Nat) : (s.storeLast j q).registry = s.registry := rfl
@[simp] theorem storeLast_shutdownActions (s : State) (j q : Nat) : (s.storeLast j q).shutdownActions = s.shutdownActions := rfl
@[simp] theorem storeLast_running (s : State) (j q : Nat) : (s.storeLast j q).running = s.running := rfl
@[simp] theorem storeLast_seqActive (s : State) (j q : Nat) : (s.storeLast j q).seqActive = s.seqActive := rfl
@[simp] theorem storeLast_passIdx (s : State) (j q : Nat) : (s.storeLast j q).passIdx = s.passIdx := rfl
@[simp] theorem storeLast_cbDepth (s : State) (j q : Nat) : (s.storeLast j q).cbDepth = s.cbDepth := rfl
@[simp] theorem storeLast_paused (s : State) (j q : Nat) : (s.storeLast j q).paused = s.paused := rfl
@[simp] theorem storeLast_inQuit (s : State) (j q : Nat) : (s.storeLast j q).inQuit = s.inQuit := rfl
@[simp] theorem storeLast_enableTimer (s : State) (j q : Nat) : (s.storeLast j q).enableTimer = s.enableTimer := rfl
@[simp] theorem storeLast_buttonTimer (s : State) (j q : Nat) : (s.storeLast j q).buttonTimer = s.buttonTimer := rfl
@[simp] theorem storeLast_trace (s : State) (j q : Nat) : (s.storeLast j q).trace = s.trace := rfl
@[simp] theorem storeLast_replies (s : State) (j q : Nat) : (s.storeLast j q).replies = s.replies := rfl
@[simp] theorem storeLast_pending (s : State) (j q : Nat) : (s.storeLast j q).pending = s.pending := rfl
@[simp] theorem storeLast_levels (s : State) (j q : Nat) : (s.storeLast j q).levels = s.levels := rfl
@[simp] theorem storeLast_samples (s : State) (j q : Nat) : (s.storeLast j q).samples = s.samples := rfl
@[simp] theorem storeLast_freeIdx (s : State) (j q : Nat) : (s.storeLast j q).freeIdx = s.freeIdx := rfl

/-! ### register -/

@[simp] theorem register_cfg (s : State) (d : Device) : (s.register d).cfg = s.cfg := rfl
@[simp] theorem register_lines (s : State) (d : Device) : (s.register d).lines = s.lines := rfl
@[simp] theorem register_lcdPresent (s : State) (d : Device) : (s.register d).lcdPresent = s.lcdPresent := rfl
@[simp] theorem register_lcdPins (s : State) (d : Device) : (s.register d).lcdPins = s.lcdPins := rfl
@[simp] theorem register_cursorPosition (s : State) (d : Device) : (s.register d).cursorPosition = s.cursorPosition := rfl
@[simp] theorem register_btns (s : State) (d : Device) : (s.register d).btns = s.btns := rfl
@[simp] theorem register_pots (s : State) (d : Device) : (s.register d).pots = s.pots := rfl
@[simp] theorem register_registry (s : State) (d : Device) : (s.register d).registry = s.registry ++ [d] := rfl
@[simp] theorem register_shutdownActions (s : State) (d : Device) : (s.register d).shutdownActions = s.shutdownActions := rfl
@[simp] theorem register_running (s : State) (d : Device) : (s.register d).running = s.running := rfl
@[simp] theorem register_seqActive (s : State) (d : Device) : (s.register d).seqActive = s.seqActive := rfl
@[simp] theorem register_passIdx (s : State) (d : Device) : (s.register d).passIdx = s.passIdx := rfl
@[simp] theorem register_cbDepth (s : State) (d : Device) : (s.register d).cbDepth = s.cbDepth := rfl
@[simp] theorem register_paused (s : State) (d : Device) : (s.register d).paused = s.paused := rfl
@[simp] theorem register_inQuit (s : State) (d : Device) : (s.register d).inQuit = s.inQuit := rfl
@[simp] theorem register_enableTimer (s : State) (d : Device) : (s.register d).enableTimer = s.enableTimer := rfl
@[simp] theorem register_buttonTimer (s : State) (d : Device) : (s.register d).buttonTimer = s.buttonTimer := rfl
@[simp] theorem register_trace (s : State) (d : Device) : (s.register d).trace = s.trace := rfl
@[simp] theorem register_replies (s : State) (d : Device) : (s.register d).replies = s.replies := rfl
@[simp] theorem register_pending (s : State) (d : Device) : (s.register d).pending = s.pending := rfl
@[simp] theorem register_levels (s : State) (d : Device) : (s.register d).levels = s.levels := rfl
@[simp] theorem register_samples (s : State) (d : Device) : (s.register d).samples = s.samples := rfl
@[simp] theorem register_freeIdx (s : State) (d : Device) : (s.register d).freeIdx = s.freeIdx := rfl

/-! ### registerShutdown -/

@[simp] theorem registerShutdown_cfg (s : State) (a : Action) : (s.registerShutdown a).cfg = s.cfg := rfl
@[simp] theorem registerShutdown_lines (s : State) (a : Action) : (s.registerShutdown a).lines = s.lines := rfl
@[simp] theorem registerShutdown_lcdPresent (s : State) (a : Action) : (s.registerShutdown a).lcdPresent = s.lcdPresent := rfl
@[simp] theorem registerShutdown_lcdPins (s : State) (a : Action) : (s.registerShutdown a).lcdPins = s.lcdPins := rfl
@[simp] theorem registerShutdown_cursorPosition (s : State) (a : Action) : (s.registerShutdown a).cursorPosition = s.cursorPosition := rfl
@[simp] theorem registerShutdown_btns (s : State) (a : Action) : (s.registerShutdown a).btns = s.btns := rfl
@[simp] theorem registerShutdown_pots (s : State) (a : Action) : (s.registerShutdown a).pots = s.pots := rfl
@[simp] theorem registerShutdown_registry (s : State) (a : Action) : (s.registerShutdown a).registry = s.registry := rfl
@[simp] theorem registerShutdown_shutdownActions (s : State) (a : Action) : (s.registerShutdown a).shutdownActions = s.shutdownActions ++ [a] := rfl
@[simp] theorem registerShutdown_running (s : State) (a : Action) : (s.registerShutdown a).running = s.running := rfl
@[simp] theorem registerShutdown_seqActive (s : State) (a : Action) : (s.registerShutdown a).seqActive = s.seqActive := rfl
@[simp] theorem registerShutdown_passIdx (s : State) (a : Action) : (s.registerShutdown a).passIdx = s.passIdx := rfl
@[simp] theorem registerShutdown_cbDepth (s : State) (a : Action) : (s.registerShutdown a).cbDepth = s.cbDepth := rfl
@[simp] theorem registerShutdown_paused (s : State) (a : Action) : (s.registerShutdown a).paused = s.paused := rfl
@[simp] theorem registerShutdown_inQuit (s : State) (a : Action) : (s.registerShutdown a).inQuit = s.inQuit := rfl
@[simp] theorem registerShutdown_enableTimer (s : State) (a : Action) : (s.registerShutdown a).enableTimer = s.enableTimer := rfl
@[simp] theorem registerShutdown_buttonTimer (s : State) (a : Action) : (s.registerShutdown a).buttonTimer = s.buttonTimer := rfl
@[simp] theorem registerShutdown_trace (s : State) (a : Action) : (s.registerShutdown a).trace = s.trace := rfl
@[simp] theorem registerShutdown_replies (s : State) (a : Action) : (s.registerShutdown a).replies = s.replies := rfl
@[simp] theorem registerShutdown_pending (s : State) (a : Action) : (s.registerShutdown a).pending = s.pending := rfl
@[simp] theorem registerShutdown_levels (s : State) (a : Action) : (s.registerShutdown a).levels = s.levels := rfl
@[simp] theorem registerShutdown_samples (s : State) (a : Action) : (s.registerShutdown a).samples = s.samples := rfl
@[simp] theorem registerShutdown_freeIdx (s : State) (a : Action) : (s.registerShutdown a).freeIdx = s.freeIdx := rfl

/-! ### holdButton -/

@[simp] theorem holdButton_cfg (s : State) (d : Duration) : (s.holdButton d).cfg = s.cfg := rfl
@[simp] theorem holdButton_lines (s : State) (d : Duration) : (s.holdButton d).lines = s.lines := rfl
@[simp] theorem holdButton_lcdPresent (s : State) (d : Duration) : (s.holdButton d).lcdPresent = s.lcdPresent := rfl
@[simp] theorem holdButton_lcdPins (s : State) (d : Duration) : (s.holdButton d).lcdPins = s.lcdPins := rfl
@[simp] theorem holdButton_cursorPosition (s : State) (d : Duration) : (s.holdButton d).cursorPosition = s.cursorPosition := rfl
@[simp] theorem holdButton_btns (s : State) (d : Duration) : (s.holdButton d).btns = s.btns := rfl
@[simp] theorem holdButton_pots (s : State) (d : Duration) : (s.holdButton d).pots = s.pots := rfl
@[simp] theorem holdButton_registry (s : State) (d : Duration) : (s.holdButton d).registry = s.registry := rfl
@[simp] theorem holdButton_shutdownActions (s : State) (d : Duration) : (s.holdButton d).shutdownActions = s.shutdownActions := rfl
@[simp] theorem holdButton_running (s : State) (d : Duration) : (s.holdButton d).running = s.running := rfl
@[simp] theorem holdButton_seqActive (s : State) (d : Duration) : (s.holdButton d).seqActive = s.seqActive := rfl
@[simp] theorem holdButton_passIdx (s : State) (d : Duration) : (s.holdButton d).passIdx = s.passIdx := rfl
@[simp] theorem holdButton_cbDepth (s : State) (d : Duration) : (s.holdButton d).cbDepth = s.cbDepth := rfl
@[simp] theorem holdButton_paused (s : State) (d : Duration) : (s.holdButton d).paused = s.paused := rfl
@[simp] theorem holdButton_inQuit (s : State) (d : Duration) : (s.holdButton d).inQuit = s.inQuit := rfl
@[simp] theorem holdButton_enableTimer (s : State) (d : Duration) : (s.holdButton d).enableTimer = s.enableTimer := rfl
@[simp] theorem holdButton_buttonTimer (s : State) (d : Duration) : (s.holdButton d).buttonTimer = none := rfl
@[simp] theorem holdButton_trace (s : State) (d : Duration) : (s.holdButton d).trace = s.trace ++ [.holdAtLeast d] := rfl
@[simp] theorem holdButton_replies (s : State) (d : Duration) : (s.holdButton d).replies = s.replies := rfl
@[simp] theorem holdButton_pending (s : State) (d : Duration) : (s.holdButton d).pending = s.pending := rfl
@[simp] theorem holdButton_levels (s : State) (d : Duration) : (s.holdButton d).levels = s.levels := rfl
@[simp] theorem holdButton_samples (s : State) (d : Duration) : (s.holdButton d).samples = s.samples := rfl
@[simp] theorem holdButton_freeIdx (s : State) (d : Duration) : (s.holdButton d).freeIdx = s.freeIdx := rfl

/-! ### takeLevel -/

@[simp] theorem takeLevel_cfg (s : State) : s.takeLevel.cfg = s.cfg := by
  unfold takeLevel; split <;> simp [*]
@[simp] theorem takeLevel_lines (s : State) : s.takeLevel.lines = s.lines := by
  unfold takeLevel; split <;> simp [*]
@[simp] theorem takeLevel_lcdPresent (s : State) : s.takeLevel.lcdPresent = s.lcdPresent := by
  unfold takeLevel; split <;> simp [*]
@[simp] theorem takeLevel_lcdPins (s : State) : s.takeLevel.lcdPins = s.lcdPins := by
  unfold takeLevel; split <;> simp [*]
@[simp] theorem takeLevel_cursorPosition (s : State) : s.takeLevel.cursorPosition = s.cursorPosition := by
  unfold takeLevel; split <;> simp [*]
@[simp] theorem takeLevel_btns (s : State) : s.takeLevel.btns = s.btns := by
  unfold takeLevel; split <;> simp [*]
@[simp] theorem takeLevel_pots (s : State) : s.takeLevel.pots = s.pots := by
  unfold takeLevel; split <;> simp [*]
@[simp] theorem takeLevel_registry (s : State) : s.takeLevel.registry = s.registry := by
  unfold takeLevel; split <;> simp [*]
@[simp] theorem takeLevel_shutdownActions (s : State) : s.takeLevel.shutdownActions = s.shutdownActions := by
  unfold takeLevel; split <;> simp [*]
@[simp] theorem takeLevel_running (s : State) : s.takeLevel.running = s.running := by
  unfold takeLevel; split <;> simp [*]
@[simp] theorem takeLevel_seqActive (s : State) : s.takeLevel.seqActive = s.seqActive := by
  unfold takeLevel; split <;> simp [*]
@[simp] theorem takeLevel_passIdx (s : State) : s.takeLevel.passIdx = s.passIdx := by
  unfold takeLevel; split <;> simp [*]
@[simp] theorem takeLevel_cbDepth (s : State) : s.takeLevel.cbDepth = s.cbDepth := by
  unfold takeLevel; split <;> simp [*]
@[simp] theorem takeLevel_paused (s : State) : s.takeLevel.paused = s.paused := by
  unfold takeLevel; split <;> simp [*]
@[simp] theorem takeLevel_inQuit (s : State) : s.takeLevel.inQuit = s.inQuit := by
  unfold takeLevel; split <;> simp [*]
@[simp] theorem takeLevel_enableTimer (s : State) : s.takeLevel.enableTimer = s.enableTimer := by
  unfold takeLevel; split <;> simp [*]
@[simp] theorem takeLevel_buttonTimer (s : State) : s.takeLevel.buttonTimer = s.buttonTimer := by
  unfold takeLevel; split <;> simp [*]
@[simp] theorem takeLevel_trace (s : State) : s.takeLevel.trace = s.trace := by
  unfold takeLevel; split <;> simp [*]
@[simp] theorem takeLevel_replies (s : State) : s.takeLevel.replies = s.replies := by
  unfold takeLevel; split <;> simp [*]
@[simp] theorem takeLevel_pending (s : State) : s.takeLevel.pending = s.pending := by
  unfold takeLevel; split <;> simp [*]
@[simp] theorem takeLevel_levels (s : State) : s.takeLevel.levels = s.levels.tail := by
  unfold takeLevel; split <;> simp [*]
@[simp] theorem takeLevel_samples (s : State) : s.takeLevel.samples = s.samples := by
  unfold takeLevel; split <;> simp [*]
@[simp] theorem takeLevel_freeIdx (s : State) : s.takeLevel.freeIdx = if s.levels.isEmpty then s.freeIdx + 1 else s.freeIdx := by
  unfold takeLevel; split <;> simp [*]

/-! ### takeSample -/

@[simp] theorem takeSample_cfg (s : State) : s.takeSample.cfg = s.cfg := by
  unfold takeSample; split <;> simp [*]
@[simp] theorem takeSample_lines (s : State) : s.takeSample.lines = s.lines := by
  unfold takeSample; split <;> simp [*]
@[simp] theorem takeSample_lcdPresent (s : State) : s.takeSample.lcdPresent = s.lcdPresent := by
  unfold takeSample; split <;> simp [*]
@[simp] theorem takeSample_lcdPins (s : State) : s.takeSample.lcdPins = s.lcdPins := by
  unfold takeSample; split <;> simp [*]
@[simp] theorem takeSample_cursorPosition (s : State) : s.takeSample.cursorPosition = s.cursorPosition := by
  unfold takeSample; split <;> simp [*]
@[simp] theorem takeSample_btns (s : State) : s.takeSample.btns = s.btns := by
  unfold takeSample; split <;> simp [*]
@[simp] theorem takeSample_pots (s : State) : s.takeSample.pots = s.pots := by
  unfold takeSample; split <;> simp [*]
@[simp] theorem takeSample_registry (s : State) : s.takeSample.registry = s.registry := by
  unfold takeSample; split <;> simp [*]
@[simp] theorem takeSample_shutdownActions (s : State) : s.takeSample.shutdownActions = s.shutdownActions := by
  unfold takeSample; split <;> simp [*]
@[simp] theorem takeSample_running (s : State) : s.takeSample.running = s.running := by
  unfold takeSample; split <;> simp [*]
@[simp] theorem takeSample_seqActive (s : State) : s.takeSample.seqActive = s.seqActive := by
  unfold takeSample; split <;> simp [*]
@[simp] theorem takeSample_passIdx (s : State) : s.takeSample.passIdx = s.passIdx := by
  unfold takeSample; split <;> simp [*]
@[simp] theorem takeSample_cbDepth (s : State) : s.takeSample.cbDepth = s.cbDepth := by
  unfold takeSample; split <;> simp [*]
@[simp] theorem takeSample_paused (s : State) : s.takeSample.paused = s.paused := by
  unfold takeSample; split <;> simp [*]
@[simp] theorem takeSample_inQuit (s : State) : s.takeSample.inQuit = s.inQuit := by
  unfold takeSample; split <;> simp [*]
@[simp] theorem takeSample_enableTimer (s : State) : s.takeSample.enableTimer = s.enableTimer := by
  unfold takeSample; split <;> simp [*]
@[simp] theorem takeSample_buttonTimer (s : State) : s.takeSample.buttonTimer = s.buttonTimer := by
  unfold takeSample; split <;> simp [*]
@[simp] theorem takeSample_trace (s : State) : s.takeSample.trace = s.trace := by
  unfold takeSample; split <;> simp [*]
@[simp] theorem takeSample_replies (s : State) : s.takeSample.replies = s.replies := by
  unfold takeSample; split <;> simp [*]
@[simp] theorem takeSample_pending (s : State) : s.takeSample.pending = s.pending := by
  unfold takeSample; split <;> simp [*]
@[simp] theorem takeSample_levels (s : State) : s.takeSample.levels = s.levels := by
  unfold takeSample; split <;> simp [*]
@[simp] theorem takeSample_samples (s : State) : s.takeSample.samples = s.samples.tail := by
  unfold takeSample; split <;> simp [*]
@[simp] theorem takeSample_freeIdx (s : State) : s.takeSample.freeIdx = if s.samples.isEmpty then s.freeIdx + 1 else s.freeIdx := by
  unfold takeSample; split <;> simp [*]

end Sys2Proof.Machine.State
end

