-- ==== Sys2Proof/Laws/Ops.lean ====
section
/-! SUPPORT. What each shared operation does, said once: the closed form of frames, the readings, the admission checks, the end of a poll. -/

namespace Sys2Proof.Machine

/-! ## Frames -/

/-- Shift and mask is the bit itself (spec/20_memory.md R77). -/
@[simp] theorem bitLevel_eq_getLsbD (b : Byte) (k : Nat) : bitLevel b k = b.getLsbD k := by
  have h : ((b >>> k) &&& 1) = BitVec.setWidth 8 (BitVec.ofBool (b.getLsbD k)) := by
    ext i hi
    by_cases h0 : i = 0
    · subst h0; simp
    · simp [BitVec.getLsbD_ofBool, BitVec.getElem_one, h0, BitVec.getElem_setWidth]
  unfold bitLevel
  rw [h]
  cases b.getLsbD k <;> rfl

/-- One frame: the lines hold it, the trace has its twelve entries, nothing else changes. -/
theorem State.frame_eq (s : State) (rs : Bool) (b : Byte) :
    s.frame rs b = s.afterFrames [(rs, b)] := by
  simp [State.frame, State.lineSet, State.holdEnable, State.record, State.afterFrames, Lines.set,
    frameLines, frameEntries]

@[simp] theorem State.afterFrames_nil (s : State) : s.afterFrames [] = s := by
  simp [State.afterFrames]

/-- Frames sent in two parts are the frames sent together. -/
theorem State.afterFrames_append (s : State) (xs ys : List (Bool × Byte)) :
    (s.afterFrames xs).afterFrames ys = s.afterFrames (xs ++ ys) := by
  rcases ys.eq_nil_or_concat with rfl | ⟨ys', y, rfl⟩
  · simp [State.afterFrames]
  · simp [State.afterFrames, List.getLast?_append]

theorem State.afterFrames_afterFrames_cursor (s : State) (xs ys : List (Bool × Byte)) (c : Int) :
    ({ s.afterFrames xs with cursorPosition := c }).afterFrames ys
      = { s.afterFrames (xs ++ ys) with cursorPosition := c } := by
  rw [← State.afterFrames_append]
  rfl

theorem State.command_eq (s : State) (op : OpcodeName) :
    s.command op = s.afterFrames [(false, opcodeByte op)] := s.frame_eq false (opcodeByte op)

/-- `n` equal command frames. -/
theorem State.commands_eq (s : State) (op : OpcodeName) (n : Nat) :
    s.commands op n = s.afterFrames (List.replicate n (false, opcodeByte op)) := by
  induction n generalizing s with
  | zero => simp [State.commands]
  | succ n ih =>
    rw [State.commands, ih, State.command_eq, State.afterFrames_append]
    rfl

/-- A text: one data frame a character, the counter increased by its length. -/
theorem State.writeText_eq (s : State) (cs : List Nat) :
    s.writeText cs = { s.afterFrames (cs.map (fun c => (true, charByte c))) with
      cursorPosition := s.cursorPosition + cs.length } := by
  induction cs generalizing s with
  | nil => simp [State.writeText]
  | cons c cs ih =>
    rw [State.writeText, ih, State.writeChar, State.frame_eq]
    have h : ({ s with cursorPosition := s.cursorPosition + 1 } : State).afterFrames
        [(true, charByte c)] = { s.afterFrames [(true, charByte c)] with
          cursorPosition := s.cursorPosition + 1 } := rfl
    rw [h, State.afterFrames_afterFrames_cursor]
    simp only [State.afterFrames, List.map_cons, List.length_cons, List.singleton_append]
    congr 1
    push_cast
    ring

theorem State.commandHome_eq (s : State) (op : OpcodeName) :
    s.commandHome op = { s.afterFrames [(false, opcodeByte op)] with cursorPosition := 1 } := by
  rw [State.commandHome, State.command_eq]

theorem State.initSequence_eq (s : State) :
    s.initSequence
      = s.afterFrames [(false, 0x38), (false, 0x0F), (false, 0x06), (false, 0x01)] := by
  simp only [State.initSequence, State.command_eq, State.afterFrames_append]
  rfl

theorem State.teardown_eq (s : State) :
    s.teardown
      = { s.afterFrames [(false, 0x01), (false, 0x08)] with cursorPosition := 1 } := by
  rw [State.teardown, State.command_eq, State.commandHome_eq,
    State.afterFrames_afterFrames_cursor]
  rfl

/-! ## Configuration -/

/-- Ten pins are ten lines: configuring line by line is configuring in list order. -/
theorem assignLines_pins (pins : List Pin) (h : pins.length = 10) :
    (assignLines pins).map Prod.snd = pins := by
  simp [assignLines, List.map_snd_zip, lineOrder, h]

/-- Looking up the key at position `k` finds the value at position `k`, when no key is listed twice. -/
theorem lookup_zip {α β : Type} [DecidableEq α] (keys : List α) (values : List β) (k : Nat) (a : α)
    (b : β) (hn : keys.Nodup) (ha : keys[k]? = some a) (hb : values[k]? = some b) :
    (keys.zip values).lookup a = some b := by
  induction keys generalizing values k with
  | nil => simp at ha
  | cons x keys ih =>
    cases values with
    | nil => simp at hb
    | cons y values =>
      cases k with
      | zero => simp_all
      | succ k =>
        have hne : a ≠ x := by
          rintro rfl
          exact (List.nodup_cons.1 hn).1 (List.mem_of_getElem? ha)
        rw [List.zip_cons_cons, List.lookup_cons, beq_false_of_ne hne]
        exact ih values k (List.nodup_cons.1 hn).2 ha hb

/-- The pin at position `k` of the list is the line at position `k` (spec/20_memory.md R84). -/
theorem State.pinOf_position (s : State) (k : Nat) (l : Line) (p : Pin)
    (hl : lineOrder[k]? = some l) (hp : s.lcdPins[k]? = some p) : s.pinOf l = some p :=
  lookup_zip lineOrder s.lcdPins k l p (by decide) hl hp

/-- Every pin accepted: one `Cfg` entry each, in list order. -/
theorem State.configureOutputs_accepted (s : State) (ps : List Pin)
    (h : ∀ p ∈ ps, s.cfg.pinOk .output p = true) :
    s.configureOutputs ps = (s.record (ps.map (fun p => .cfg .output p none)), none) := by
  induction ps generalizing s with
  | nil => simp [State.configureOutputs, State.record]
  | cons p ps ih =>
    have hp := h p (by simp)
    rw [State.configureOutputs, if_pos hp, ih]
    · simp [State.configured, State.record]
    · intro q hq
      exact h q (by simp [hq])

/-- The first rejected pin: the `Cfg` entries of the pins before it stay. -/
theorem State.configureOutputs_rejected (s : State) (before : List Pin) (p : Pin)
    (after : List Pin) (h : ∀ q ∈ before, s.cfg.pinOk .output q = true)
    (hp : s.cfg.pinOk .output p = false) :
    s.configureOutputs (before ++ p :: after)
      = (s.record (before.map (fun q => .cfg .output q none)), some p) := by
  induction before generalizing s with
  | nil => simp [State.configureOutputs, hp, State.record]
  | cons q before ih =>
    have hq := h q (by simp)
    rw [List.cons_append, State.configureOutputs, if_pos hq, ih]
    · simp [State.configured, State.record]
    · intro r hr
      exact h r (by simp [hr])
    · exact hp

/-- Configuration only adds `Cfg` entries. -/
theorem State.configureOutputs_fst (s : State) (ps : List Pin) :
    ∃ qs : List Pin, (s.configureOutputs ps).1
      = s.record (qs.map (fun q => .cfg .output q none)) := by
  induction ps generalizing s with
  | nil => exact ⟨[], by simp [State.configureOutputs, State.record]⟩
  | cons p ps ih =>
    rw [State.configureOutputs]
    split
    · obtain ⟨qs, h⟩ := ih (s.configured .output p none)
      exact ⟨p :: qs, by rw [h]; simp [State.configured, State.record]⟩
    · exact ⟨[], by simp [State.record]⟩

/-! ## Admission: what has to hold when an operation answers a next state -/

theorem whenControl_next_iff (s t : State) (k : Result) :
    whenControl s k = .next t ↔ s.hostHasControl = true ∧ k = .next t := by
  unfold whenControl; split <;> simp_all

theorem whenLcd_next_iff (s t : State) (k : Result) :
    whenLcd s k = .next t ↔ s.hostHasControl = true ∧ s.lcdPresent = true ∧ k = .next t := by
  unfold whenLcd; rw [whenControl_next_iff]; split <;> simp_all

theorem whenIdle_next_iff (s t : State) (k : Result) :
    whenIdle s k = .next t ↔ s.hostIdle ∧ k = .next t := by
  unfold whenIdle State.hostIdle; split
  · simp_all
  · split <;> simp_all

theorem whenConstruction_next_iff (s t : State) (k : Result) :
    whenConstruction s k = .next t ↔ s.constructible ∧ k = .next t := by
  unfold whenConstruction State.constructible
  rw [whenIdle_next_iff]
  cases s.inQuit <;> simp

theorem whenPoll_next_iff (s t : State) (d : Device) (k : Result) :
    whenPoll s d k = .next t ↔ s.pollable d ∧ k = .next t := by
  unfold whenPoll State.pollable
  split
  · simp_all
  · rename_i h
    by_cases ha : s.seqActive = true <;> by_cases hr : s.registry[s.passIdx]? = some d <;> simp_all

theorem whenBtn_next_iff (s t : State) (i : Nat) (k : Btn → Result) :
    whenBtn s i k = .next t ↔ ∃ b, s.btns[i]? = some b ∧ b.present = true ∧ k b = .next t := by
  unfold whenBtn; split
  · simp_all
  · rename_i b hb
    by_cases hp : b.present = true <;> simp_all

theorem whenPot_next_iff (s t : State) (j : Nat) (k : Pot → Result) :
    whenPot s j k = .next t ↔ ∃ p, s.pots[j]? = some p ∧ p.present = true ∧ k p = .next t := by
  unfold whenPot; split
  · simp_all
  · rename_i p hp
    by_cases hp : p.present = true <;> simp_all

theorem whenBtnFree_next_iff (s t : State) (i : Nat) (k : Result) :
    whenBtnFree s i k = .next t
      ↔ ∃ b, s.btns[i]? = some b ∧ b.present = false ∧ k = .next t := by
  unfold whenBtnFree; split
  · simp_all
  · rename_i b hb
    by_cases hp : b.present = true <;> simp_all

theorem whenPotFree_next_iff (s t : State) (j : Nat) (k : Result) :
    whenPotFree s j k = .next t
      ↔ ∃ p, s.pots[j]? = some p ∧ p.present = false ∧ k = .next t := by
  unfold whenPotFree; split
  · simp_all
  · rename_i p hp
    by_cases hp : p.present = true <;> simp_all

/-- The host has control exactly when it is idle or a window is open. -/
theorem State.hostHasControl_iff (s : State) :
    s.hostHasControl = true ↔ s.seqActive = false ∨ s.cbDepth ≠ 0 := by
  simp [State.hostHasControl]

/-! ## The end of a poll -/

/-- The four ways a poll can end: within the pass, at its end with another pass to come, at its end
with RUN returning, or issued by the host. -/
theorem State.finishPoll_cases (s : State) :
    (s.seqActive = true ∧ s.passIdx + 1 < s.registry.length
      ∧ s.finishPoll = { s with passIdx := s.passIdx + 1 })
    ∨ (s.seqActive = true ∧ s.registry.length ≤ s.passIdx + 1 ∧ s.running = true
      ∧ s.finishPoll = { s with passIdx := 0 })
    ∨ (s.seqActive = true ∧ s.registry.length ≤ s.passIdx + 1 ∧ s.running = false
      ∧ s.finishPoll = { s with
          passIdx := 0, seqActive := false, replies := s.replies ++ [.done] })
    ∨ (s.seqActive = false ∧ s.finishPoll = { s with replies := s.replies ++ [.done] }) := by
  unfold State.finishPoll State.advancePass State.passBoundary State.report
  by_cases ha : s.seqActive = true <;> by_cases hi : s.passIdx + 1 < s.registry.length
    <;> by_cases hr : s.running = true <;> simp_all

/-- A poll's fault: RUN goes on as after any other poll, and a poll of the host's is reported. -/
theorem State.pollFault_eq (s : State) (d : Device) :
    s.pollFault d = if s.seqActive then s.finishPoll
      else { s with replies := s.replies ++ [.failed (.pollFault d)] } := by
  unfold State.pollFault State.finishPoll State.raise State.report
  split <;> rfl

/-! ## The potentiometer value -/

/-- A value in range, whatever the width (spec/45_pot.md R237). -/
theorem potQ_le (c : Config) (raw : Nat) (h : raw ≤ fullScale c) : potQ c raw ≤ 100 := by
  unfold potQ
  rcases Nat.eq_zero_or_pos (fullScale c) with h0 | h0
  · simp [h0]
  · rw [← Nat.lt_succ_iff, Nat.div_lt_iff_lt_mul (by omega)]
    omega

/-- A sample that `AdcRead` hands over is within its type. -/
theorem State.sampleAnswer_le (s : State) (j raw : Nat) (h : s.sampleAnswer j = some raw) :
    raw ≤ fullScale s.cfg := by
  unfold State.sampleAnswer sampleInType at h
  split at h
  · simp at h
  · split at h
    · simp_all
    · simp at h

end Sys2Proof.Machine
end

