-- ==== Sys2Proof/Laws/Exec.lean ====
section
/-! SUPPORT. For every shape of operation, exactly when it answers a next state and which one. -/

namespace Sys2Proof.Machine

/-- Two next outcomes are the same state, read from the outcome's side. -/
theorem next_eq_iff (a t : State) : (Host.Outcome.next a : Result) = .next t ↔ t = a := by
  simp only [Host.Outcome.next.injEq]
  exact eq_comm

/-! ## LCD -/

theorem sendFrame_next_iff (rs : Bool) (b : Byte) (s t : State) :
    sendFrame rs b s = .next t ↔ s.hostHasControl = true ∧ s.lcdPresent = true
      ∧ t = (s.afterFrames [(rs, b)]).report .done := by
  rw [sendFrame, whenLcd_next_iff, State.frame_eq, next_eq_iff]

theorem sendByte_next_iff (rs : Bool) (b : Int) (s t : State) :
    sendByte rs b s = .next t ↔ byteInType b = true ∧ s.hostHasControl = true
      ∧ s.lcdPresent = true ∧ t = (s.afterFrames [(rs, byteOf b)]).report .done := by
  unfold sendByte
  split
  · simp_all [sendFrame_next_iff]
  · simp_all

theorem sendOpcode_next_iff (op : OpcodeName) (s t : State) :
    sendOpcode op s = .next t ↔ s.hostHasControl = true ∧ s.lcdPresent = true
      ∧ t = (s.afterFrames [(false, opcodeByte op)]).report .done :=
  sendFrame_next_iff false (opcodeByte op) s t

theorem sendHome_next_iff (op : OpcodeName) (s t : State) :
    sendHome op s = .next t ↔ s.hostHasControl = true ∧ s.lcdPresent = true
      ∧ t = State.report { s.afterFrames [(false, opcodeByte op)] with cursorPosition := 1 } .done := by
  rw [sendHome, whenLcd_next_iff, State.commandHome_eq, next_eq_iff]

theorem execWrite_next_iff (text : List Nat) (s t : State) :
    execWrite text s = .next t ↔ textInType text = true ∧ s.hostHasControl = true
      ∧ s.lcdPresent = true ∧ t = State.report
        { s.afterFrames (text.map (fun c => (true, charByte c))) with
          cursorPosition := s.cursorPosition + text.length } .done := by
  unfold execWrite
  split
  · rw [whenLcd_next_iff, State.writeText_eq, next_eq_iff]
    simp_all
  · simp_all

/-- MOVE_CURSOR in closed form; for 0 it is the state itself. -/
theorem State.moveCursor_eq (s : State) (n : Int) :
    (if n = 0 then s else s.moveCursor n)
      = { s.afterFrames (List.replicate n.natAbs (false, opcodeByte (moveOpcode n))) with
          cursorPosition := s.cursorPosition + n } := by
  split
  · subst n; simp
  · rw [State.moveCursor, State.commands_eq]

theorem execMoveCursor_next_iff (n : Int) (s t : State) :
    execMoveCursor n s = .next t ↔ s.hostHasControl = true ∧ s.lcdPresent = true
      ∧ t = State.report
        { s.afterFrames (List.replicate n.natAbs (false, opcodeByte (moveOpcode n))) with
          cursorPosition := s.cursorPosition + n } .done := by
  rw [execMoveCursor, whenLcd_next_iff, State.moveCursor_eq, next_eq_iff]

/-- NEW_LINE in closed form, for both modes. -/
theorem State.newLine_eq (s : State) :
    s.newLine = { s.afterFrames (List.replicate (newLineMoves s.cursorPosition)
        (false, opcodeByte .moveRight)) with
      cursorPosition := match s.cfg.newlineCpMode with
        | .unchanged => s.cursorPosition
        | .advance => s.cursorPosition + newLineMoves s.cursorPosition } := by
  unfold State.newLine
  simp only [State.commands_eq]
  cases s.cfg.newlineCpMode <;> rfl

theorem execNewLine_next_iff (s t : State) :
    execNewLine s = .next t ↔ s.hostHasControl = true ∧ s.lcdPresent = true
      ∧ t = s.newLine.report .done := by
  rw [execNewLine, whenLcd_next_iff, next_eq_iff]

theorem execRdCursor_next_iff (s t : State) :
    execRdCursor s = .next t ↔ s.hostHasControl = true ∧ s.lcdPresent = true
      ∧ t = s.report (.cursor s.cursorPosition) := by
  rw [execRdCursor, whenLcd_next_iff, next_eq_iff]

/-- LCD_INIT once admitted, when every pin is accepted. -/
theorem State.lcdInit_accepted (s : State) (pins : List Pin) (text : List Nat)
    (hl : pins.length = 10) (hp : ∀ p ∈ pins, s.cfg.pinOk .output p = true) :
    s.lcdInit pins text = State.report
      { (s.record (pins.map (fun p => .cfg .output p none))).afterFrames
          ([(false, 0x38), (false, 0x0F), (false, 0x06), (false, 0x01)]
            ++ text.map (fun c => (true, charByte c))) with
        lcdPins := pins, lcdPresent := true, cursorPosition := 1 + text.length
        shutdownActions := s.shutdownActions ++ [.teardown] } .done := by
  rw [State.lcdInit, if_neg (by simpa using hl), assignLines_pins pins hl,
    State.configureOutputs_accepted s pins hp]
  simp only [State.initSequence_eq, State.writeText_eq, State.afterFrames_append]
  rfl

/-- What LCD_INIT can leave once admitted: the length fault, a pin fault after some `Cfg` entries, or
the constructed LCD. -/
theorem State.lcdInit_cases (s : State) (pins : List Pin) (text : List Nat) :
    (s.lcdInit pins text = s.raise (.configFault .lcd .length))
    ∨ (∃ (qs : List Pin) (p : Pin), s.lcdInit pins text
        = (s.record (qs.map (fun q => .cfg .output q none))).raise (.configFault .lcd (.pin p)))
    ∨ (pins.length = 10 ∧ (∀ p ∈ pins, s.cfg.pinOk .output p = true)) := by
  by_cases hl : pins.length = 10
  · by_cases hp : ∀ p ∈ pins, s.cfg.pinOk .output p = true
    · exact .inr (.inr ⟨hl, hp⟩)
    · refine .inr (.inl ?_)
      rw [State.lcdInit, if_neg (by simpa using hl), assignLines_pins pins hl]
      obtain ⟨qs, h⟩ := State.configureOutputs_fst s pins
      have hsnd : ∃ p, (s.configureOutputs pins).2 = some p := by
        clear h hl
        induction pins generalizing s with
        | nil => simp at hp
        | cons p ps ih =>
          rw [State.configureOutputs]
          split
          · rename_i hok
            exact ih (s.configured .output p none) (by
              intro hall
              exact hp (by
                intro q hq
                rcases List.mem_cons.mp hq with rfl | hq
                · exact hok
                · exact hall q hq))
          · exact ⟨p, rfl⟩
      obtain ⟨p, hp'⟩ := hsnd
      refine ⟨qs, p, ?_⟩
      generalize hc : s.configureOutputs pins = r at *
      obtain ⟨r1, r2⟩ := r
      simp only at h hp'
      subst h hp'
      rfl
  · exact .inl (by rw [State.lcdInit, if_pos hl])

theorem execLcdInit_next_iff (pins : List Pin) (text : Option (List Nat)) (s t : State) :
    execLcdInit pins text s = .next t ↔ s.constructible ∧ s.lcdPresent = false
      ∧ textInType (initialText text) = true ∧ t = s.lcdInit pins (initialText text) := by
  rw [execLcdInit, whenConstruction_next_iff]
  by_cases hp : s.lcdPresent = true <;> by_cases ht : textInType (initialText text) = true
    <;> simp_all [-Host.Outcome.next.injEq, next_eq_iff]

theorem execTeardown_next_iff (s t : State) :
    execTeardown s = .next t ↔ s.inQuit = true ∧ t
      = { s.afterFrames [(false, 0x01), (false, 0x08)] with cursorPosition := 1 } := by
  unfold execTeardown
  split <;> simp_all [-Host.Outcome.next.injEq, next_eq_iff, State.teardown_eq]

/-! ## Devices -/

theorem execBtnInit_next_iff (i : Nat) (pin : Pin) (cb : Bool) (interval : Option Duration)
    (s t : State) :
    execBtnInit i pin cb interval s = .next t ↔ s.constructible
      ∧ ∃ b, s.btns[i]? = some b ∧ b.present = false ∧ intervalInType (intervalOf interval) = true
        ∧ t = s.btnInit i pin cb (intervalOf interval) := by
  rw [execBtnInit, whenConstruction_next_iff, whenBtnFree_next_iff]
  by_cases h : intervalInType (intervalOf interval) = true
    <;> simp_all [-Host.Outcome.next.injEq, next_eq_iff]

theorem execBtnPoll_next_iff (i : Nat) (s t : State) :
    execBtnPoll i s = .next t ↔ s.pollable (.btn i)
      ∧ ∃ b, s.btns[i]? = some b ∧ b.present = true ∧ t = s.btnPoll i b := by
  rw [execBtnPoll, whenPoll_next_iff, whenBtn_next_iff]
  simp only [next_eq_iff]

theorem execPotInit_next_iff (j : Nat) (pin : Pin) (cb : Bool) (s t : State) :
    execPotInit j pin cb s = .next t ↔ s.constructible
      ∧ ∃ p, s.pots[j]? = some p ∧ p.present = false ∧ t = s.potInit j pin cb := by
  rw [execPotInit, whenConstruction_next_iff, whenPotFree_next_iff]
  simp [-Host.Outcome.next.injEq, next_eq_iff]

theorem execPotValue_next_iff (j : Nat) (s t : State) :
    execPotValue j s = .next t ↔ s.hostHasControl = true
      ∧ ∃ p, s.pots[j]? = some p ∧ p.present = true ∧ t = s.potValue j := by
  rw [execPotValue, whenControl_next_iff, whenPot_next_iff]
  simp [-Host.Outcome.next.injEq, next_eq_iff]

theorem execPotPoll_next_iff (j : Nat) (s t : State) :
    execPotPoll j s = .next t ↔ s.pollable (.pot j)
      ∧ ∃ p, s.pots[j]? = some p ∧ p.present = true ∧ t = s.potPoll j p := by
  rw [execPotPoll, whenPoll_next_iff, whenPot_next_iff]
  simp [-Host.Outcome.next.injEq, next_eq_iff]

/-! ## Sequencer -/

theorem execRun_next_iff (s t : State) :
    execRun s = .next t ↔ s.hostIdle ∧ t = s.startRun := by
  rw [execRun, whenIdle_next_iff, next_eq_iff]

/-- The frames the shutdown actions send. -/
def shutdownFrames (as : List Action) : List (Bool × Byte) :=
  as.flatMap (fun | .teardown => [(false, 0x01), (false, 0x08)])

/-- Inside a QUIT every list of actions completes. -/
theorem performActions_eq (as : List Action) (s : State) (h : s.inQuit = true) :
    performActions as s = .next { s.afterFrames (shutdownFrames as) with
      cursorPosition := if as = [] then s.cursorPosition else 1 } := by
  induction as generalizing s with
  | nil => simp [performActions, shutdownFrames]
  | cons a as ih =>
    cases a
    have hq : ({ s.afterFrames [(false, 0x01), (false, 0x08)] with cursorPosition := 1 } : State).inQuit
        = true := h
    simp only [performActions, performAction, execTeardown, h, if_true, State.teardown_eq]
    rw [ih _ hq, State.afterFrames_afterFrames_cursor]
    simp [shutdownFrames, State.afterFrames]

theorem execQuit_next_iff (s t : State) :
    execQuit s = .next t ↔ s.hostHasControl = true ∧ t = State.report
      { s.afterFrames (shutdownFrames s.shutdownActions) with
        cursorPosition := if s.shutdownActions = [] then s.cursorPosition else 1
        running := false, inQuit := false } .done := by
  rw [execQuit, whenControl_next_iff, performActions_eq _ _ rfl]
  simp only [next_eq_iff]
  rfl

/-! ## The step -/

/-- Once the pending action is taken: a word's operation, a return, a block reset. -/
theorem performPending_next_iff (a : HostAction) (s t : State) :
    performPending a s = .next t ↔
      (∃ w i, a = .word w ∧ decode w = .ok i ∧ exec i s = .next t)
      ∨ (∃ p, a = .callbackReturn ∧ s.paused = some p ∧ t = s.closeWindow p)
      ∨ (a = .blockReset ∧ t = s.blockReset) := by
  cases a with
  | word w =>
    simp only [performPending, performWord]
    cases hd : decode w <;> simp [hd]
  | callbackReturn =>
    simp only [performPending, callbackReturn]
    cases hp : s.paused <;> simp [-Host.Outcome.next.injEq, next_eq_iff]
  | callbackFail =>
    simp only [performPending, callbackFail]
    cases hp : s.paused <;> simp
  | blockReset => simp [performPending, -Host.Outcome.next.injEq, next_eq_iff]

/-- Every way a step can answer a next state. -/
theorem step_next_cases (s t : State) (h : step s = .next t) :
    (∃ rest, s.pending = .blockReset :: rest ∧ t = State.blockReset { s with pending := rest })
    ∨ (s.hostHasControl = true ∧ s.pending = [] ∧ t = s)
    ∨ (s.hostHasControl = true ∧ ∃ w rest i, s.pending = .word w :: rest ∧ decode w = .ok i
        ∧ exec i { s with pending := rest } = .next t)
    ∨ (s.hostHasControl = true ∧ ∃ rest p, s.pending = .callbackReturn :: rest
        ∧ s.paused = some p ∧ t = State.closeWindow { s with pending := rest } p)
    ∨ (s.hostHasControl = false ∧ ∃ d, s.registry[s.passIdx]? = some d
        ∧ exec (pollOf d) s = .next t)
    ∨ (s.hostHasControl = false ∧ s.registry[s.passIdx]? = none ∧ t = s.passBoundary) := by
  have hseq : ∀ u, sequencerStep s = .next u →
      (∃ d, s.registry[s.passIdx]? = some d ∧ exec (pollOf d) s = .next u)
        ∨ (s.registry[s.passIdx]? = none ∧ u = s.passBoundary) := by
    intro u hu
    unfold sequencerStep at hu
    cases hr : s.registry[s.passIdx]? with
    | none => simp_all
    | some d => simp_all
  unfold step nextStep at h
  cases hc : s.hostHasControl with
  | false =>
    split at h
    · rename_i rest hp
      exact .inl ⟨rest, hp, by simpa using h.symm⟩
    · rw [hc] at h
      rcases hseq t (by simpa using h) with h | h
      · exact .inr (.inr (.inr (.inr (.inl ⟨rfl, h⟩))))
      · exact .inr (.inr (.inr (.inr (.inr ⟨rfl, h⟩))))
    · rw [hc] at h
      rcases hseq t (by simpa using h) with h | h
      · exact .inr (.inr (.inr (.inr (.inl ⟨rfl, h⟩))))
      · exact .inr (.inr (.inr (.inr (.inr ⟨rfl, h⟩))))
  | true =>
    split at h
    · rename_i rest hp
      exact .inl ⟨rest, hp, by simpa using h.symm⟩
    · rename_i a rest hne hp
      rw [hc, if_pos rfl, performPending_next_iff] at h
      rcases h with ⟨w, i, ha, hd, he⟩ | ⟨p, ha, hs, he⟩ | ⟨ha, he⟩
      · exact .inr (.inr (.inl ⟨rfl, w, rest, i, by rw [hp, ha], hd, he⟩))
      · exact .inr (.inr (.inr (.inl ⟨rfl, rest, p, by rw [hp, ha], hs, he⟩)))
      · exact absurd ha hne
    · rename_i hp
      rw [hc, if_pos rfl] at h
      exact .inr (.inl ⟨rfl, hp, by simpa using h.symm⟩)

end Sys2Proof.Machine
end

