-- ==== Sys2Proof/Laws/Fields.lean ====
section
/-! SUPPORT. For the composite operations, the fields they leave alone and the ones they write. -/

namespace Sys2Proof.Machine.State

/-! ### raise -/

@[simp] theorem raise_cfg (s : State) (x : BlockFault) : (s.raise x).cfg = s.cfg := rfl
@[simp] theorem raise_lines (s : State) (x : BlockFault) : (s.raise x).lines = s.lines := rfl
@[simp] theorem raise_lcdPresent (s : State) (x : BlockFault) : (s.raise x).lcdPresent = s.lcdPresent := rfl
@[simp] theorem raise_lcdPins (s : State) (x : BlockFault) : (s.raise x).lcdPins = s.lcdPins := rfl
@[simp] theorem raise_cursorPosition (s : State) (x : BlockFault) : (s.raise x).cursorPosition = s.cursorPosition := rfl
@[simp] theorem raise_btns (s : State) (x : BlockFault) : (s.raise x).btns = s.btns := rfl
@[simp] theorem raise_pots (s : State) (x : BlockFault) : (s.raise x).pots = s.pots := rfl
@[simp] theorem raise_registry (s : State) (x : BlockFault) : (s.raise x).registry = s.registry := rfl
@[simp] theorem raise_shutdownActions (s : State) (x : BlockFault) : (s.raise x).shutdownActions = s.shutdownActions := rfl
@[simp] theorem raise_running (s : State) (x : BlockFault) : (s.raise x).running = s.running := rfl
@[simp] theorem raise_seqActive (s : State) (x : BlockFault) : (s.raise x).seqActive = s.seqActive := rfl
@[simp] theorem raise_passIdx (s : State) (x : BlockFault) : (s.raise x).passIdx = s.passIdx := rfl
@[simp] theorem raise_cbDepth (s : State) (x : BlockFault) : (s.raise x).cbDepth = s.cbDepth := rfl
@[simp] theorem raise_paused (s : State) (x : BlockFault) : (s.raise x).paused = s.paused := rfl
@[simp] theorem raise_inQuit (s : State) (x : BlockFault) : (s.raise x).inQuit = s.inQuit := rfl
@[simp] theorem raise_enableTimer (s : State) (x : BlockFault) : (s.raise x).enableTimer = s.enableTimer := rfl
@[simp] theorem raise_buttonTimer (s : State) (x : BlockFault) : (s.raise x).buttonTimer = s.buttonTimer := rfl
@[simp] theorem raise_trace (s : State) (x : BlockFault) : (s.raise x).trace = s.trace := rfl
@[simp] theorem raise_replies (s : State) (x : BlockFault) : (s.raise x).replies = s.replies ++ [.failed x] := rfl
@[simp] theorem raise_pending (s : State) (x : BlockFault) : (s.raise x).pending = s.pending := rfl
@[simp] theorem raise_levels (s : State) (x : BlockFault) : (s.raise x).levels = s.levels := rfl
@[simp] theorem raise_samples (s : State) (x : BlockFault) : (s.raise x).samples = s.samples := rfl
@[simp] theorem raise_freeIdx (s : State) (x : BlockFault) : (s.raise x).freeIdx = s.freeIdx := rfl

/-! ### configured -/

@[simp] theorem configured_cfg (s : State) (k : LineKind) (p : Pin) (o : Option Pull) : (s.configured k p o).cfg = s.cfg := rfl
@[simp] theorem configured_lines (s : State) (k : LineKind) (p : Pin) (o : Option Pull) : (s.configured k p o).lines = s.lines := rfl
@[simp] theorem configured_lcdPresent (s : State) (k : LineKind) (p : Pin) (o : Option Pull) : (s.configured k p o).lcdPresent = s.lcdPresent := rfl
@[simp] theorem configured_lcdPins (s : State) (k : LineKind) (p : Pin) (o : Option Pull) : (s.configured k p o).lcdPins = s.lcdPins := rfl
@[simp] theorem configured_cursorPosition (s : State) (k : LineKind) (p : Pin) (o : Option Pull) : (s.configured k p o).cursorPosition = s.cursorPosition := rfl
@[simp] theorem configured_btns (s : State) (k : LineKind) (p : Pin) (o : Option Pull) : (s.configured k p o).btns = s.btns := rfl
@[simp] theorem configured_pots (s : State) (k : LineKind) (p : Pin) (o : Option Pull) : (s.configured k p o).pots = s.pots := rfl
@[simp] theorem configured_registry (s : State) (k : LineKind) (p : Pin) (o : Option Pull) : (s.configured k p o).registry = s.registry := rfl
@[simp] theorem configured_shutdownActions (s : State) (k : LineKind) (p : Pin) (o : Option Pull) : (s.configured k p o).shutdownActions = s.shutdownActions := rfl
@[simp] theorem configured_running (s : State) (k : LineKind) (p : Pin) (o : Option Pull) : (s.configured k p o).running = s.running := rfl
@[simp] theorem configured_seqActive (s : State) (k : LineKind) (p : Pin) (o : Option Pull) : (s.configured k p o).seqActive = s.seqActive := rfl
@[simp] theorem configured_passIdx (s : State) (k : LineKind) (p : Pin) (o : Option Pull) : (s.configured k p o).passIdx = s.passIdx := rfl
@[simp] theorem configured_cbDepth (s : State) (k : LineKind) (p : Pin) (o : Option Pull) : (s.configured k p o).cbDepth = s.cbDepth := rfl
@[simp] theorem configured_paused (s : State) (k : LineKind) (p : Pin) (o : Option Pull) : (s.configured k p o).paused = s.paused := rfl
@[simp] theorem configured_inQuit (s : State) (k : LineKind) (p : Pin) (o : Option Pull) : (s.configured k p o).inQuit = s.inQuit := rfl
@[simp] theorem configured_enableTimer (s : State) (k : LineKind) (p : Pin) (o : Option Pull) : (s.configured k p o).enableTimer = s.enableTimer := rfl
@[simp] theorem configured_buttonTimer (s : State) (k : LineKind) (p : Pin) (o : Option Pull) : (s.configured k p o).buttonTimer = s.buttonTimer := rfl
@[simp] theorem configured_trace (s : State) (k : LineKind) (p : Pin) (o : Option Pull) : (s.configured k p o).trace = s.trace ++ [.cfg k p o] := rfl
@[simp] theorem configured_replies (s : State) (k : LineKind) (p : Pin) (o : Option Pull) : (s.configured k p o).replies = s.replies := rfl
@[simp] theorem configured_pending (s : State) (k : LineKind) (p : Pin) (o : Option Pull) : (s.configured k p o).pending = s.pending := rfl
@[simp] theorem configured_levels (s : State) (k : LineKind) (p : Pin) (o : Option Pull) : (s.configured k p o).levels = s.levels := rfl
@[simp] theorem configured_samples (s : State) (k : LineKind) (p : Pin) (o : Option Pull) : (s.configured k p o).samples = s.samples := rfl
@[simp] theorem configured_freeIdx (s : State) (k : LineKind) (p : Pin) (o : Option Pull) : (s.configured k p o).freeIdx = s.freeIdx := rfl

/-! ### openWindow -/

@[simp] theorem openWindow_cfg (s : State) (p : Paused) : (s.openWindow p).cfg = s.cfg := rfl
@[simp] theorem openWindow_lines (s : State) (p : Paused) : (s.openWindow p).lines = s.lines := rfl
@[simp] theorem openWindow_lcdPresent (s : State) (p : Paused) : (s.openWindow p).lcdPresent = s.lcdPresent := rfl
@[simp] theorem openWindow_lcdPins (s : State) (p : Paused) : (s.openWindow p).lcdPins = s.lcdPins := rfl
@[simp] theorem openWindow_cursorPosition (s : State) (p : Paused) : (s.openWindow p).cursorPosition = s.cursorPosition := rfl
@[simp] theorem openWindow_btns (s : State) (p : Paused) : (s.openWindow p).btns = s.btns := rfl
@[simp] theorem openWindow_pots (s : State) (p : Paused) : (s.openWindow p).pots = s.pots := rfl
@[simp] theorem openWindow_registry (s : State) (p : Paused) : (s.openWindow p).registry = s.registry := rfl
@[simp] theorem openWindow_shutdownActions (s : State) (p : Paused) : (s.openWindow p).shutdownActions = s.shutdownActions := rfl
@[simp] theorem openWindow_running (s : State) (p : Paused) : (s.openWindow p).running = s.running := rfl
@[simp] theorem openWindow_seqActive (s : State) (p : Paused) : (s.openWindow p).seqActive = s.seqActive := rfl
@[simp] theorem openWindow_passIdx (s : State) (p : Paused) : (s.openWindow p).passIdx = s.passIdx := rfl
@[simp] theorem openWindow_cbDepth (s : State) (p : Paused) : (s.openWindow p).cbDepth = s.cbDepth + 1 := rfl
@[simp] theorem openWindow_paused (s : State) (p : Paused) : (s.openWindow p).paused = some p := rfl
@[simp] theorem openWindow_inQuit (s : State) (p : Paused) : (s.openWindow p).inQuit = s.inQuit := rfl
@[simp] theorem openWindow_enableTimer (s : State) (p : Paused) : (s.openWindow p).enableTimer = s.enableTimer := rfl
@[simp] theorem openWindow_buttonTimer (s : State) (p : Paused) : (s.openWindow p).buttonTimer = s.buttonTimer := rfl
@[simp] theorem openWindow_trace (s : State) (p : Paused) : (s.openWindow p).trace = s.trace ++ [.cb p.device] := rfl
@[simp] theorem openWindow_replies (s : State) (p : Paused) : (s.openWindow p).replies = s.replies := rfl
@[simp] theorem openWindow_pending (s : State) (p : Paused) : (s.openWindow p).pending = s.pending := rfl
@[simp] theorem openWindow_levels (s : State) (p : Paused) : (s.openWindow p).levels = s.levels := rfl
@[simp] theorem openWindow_samples (s : State) (p : Paused) : (s.openWindow p).samples = s.samples := rfl
@[simp] theorem openWindow_freeIdx (s : State) (p : Paused) : (s.openWindow p).freeIdx = s.freeIdx := rfl

/-! ### afterFrames -/

@[simp] theorem afterFrames_cfg (s : State) (ws : List (Bool × Byte)) : (s.afterFrames ws).cfg = s.cfg := rfl
@[simp] theorem afterFrames_lcdPresent (s : State) (ws : List (Bool × Byte)) : (s.afterFrames ws).lcdPresent = s.lcdPresent := rfl
@[simp] theorem afterFrames_lcdPins (s : State) (ws : List (Bool × Byte)) : (s.afterFrames ws).lcdPins = s.lcdPins := rfl
@[simp] theorem afterFrames_cursorPosition (s : State) (ws : List (Bool × Byte)) : (s.afterFrames ws).cursorPosition = s.cursorPosition := rfl
@[simp] theorem afterFrames_btns (s : State) (ws : List (Bool × Byte)) : (s.afterFrames ws).btns = s.btns := rfl
@[simp] theorem afterFrames_pots (s : State) (ws : List (Bool × Byte)) : (s.afterFrames ws).pots = s.pots := rfl
@[simp] theorem afterFrames_registry (s : State) (ws : List (Bool × Byte)) : (s.afterFrames ws).registry = s.registry := rfl
@[simp] theorem afterFrames_shutdownActions (s : State) (ws : List (Bool × Byte)) : (s.afterFrames ws).shutdownActions = s.shutdownActions := rfl
@[simp] theorem afterFrames_running (s : State) (ws : List (Bool × Byte)) : (s.afterFrames ws).running = s.running := rfl
@[simp] theorem afterFrames_seqActive (s : State) (ws : List (Bool × Byte)) : (s.afterFrames ws).seqActive = s.seqActive := rfl
@[simp] theorem afterFrames_passIdx (s : State) (ws : List (Bool × Byte)) : (s.afterFrames ws).passIdx = s.passIdx := rfl
@[simp] theorem afterFrames_cbDepth (s : State) (ws : List (Bool × Byte)) : (s.afterFrames ws).cbDepth = s.cbDepth := rfl
@[simp] theorem afterFrames_paused (s : State) (ws : List (Bool × Byte)) : (s.afterFrames ws).paused = s.paused := rfl
@[simp] theorem afterFrames_inQuit (s : State) (ws : List (Bool × Byte)) : (s.afterFrames ws).inQuit = s.inQuit := rfl
@[simp] theorem afterFrames_enableTimer (s : State) (ws : List (Bool × Byte)) : (s.afterFrames ws).enableTimer = if ws.isEmpty then s.enableTimer else none := rfl
@[simp] theorem afterFrames_buttonTimer (s : State) (ws : List (Bool × Byte)) : (s.afterFrames ws).buttonTimer = s.buttonTimer := rfl
@[simp] theorem afterFrames_trace (s : State) (ws : List (Bool × Byte)) : (s.afterFrames ws).trace = s.trace ++ ws.flatMap (fun w => frameEntries s.cfg.tEh w.1 w.2) := rfl
@[simp] theorem afterFrames_replies (s : State) (ws : List (Bool × Byte)) : (s.afterFrames ws).replies = s.replies := rfl
@[simp] theorem afterFrames_pending (s : State) (ws : List (Bool × Byte)) : (s.afterFrames ws).pending = s.pending := rfl
@[simp] theorem afterFrames_levels (s : State) (ws : List (Bool × Byte)) : (s.afterFrames ws).levels = s.levels := rfl
@[simp] theorem afterFrames_samples (s : State) (ws : List (Bool × Byte)) : (s.afterFrames ws).samples = s.samples := rfl
@[simp] theorem afterFrames_freeIdx (s : State) (ws : List (Bool × Byte)) : (s.afterFrames ws).freeIdx = s.freeIdx := rfl

/-! ### lineGet -/

@[simp] theorem lineGet_cfg (s : State) (i : Nat) : (s.lineGet i).cfg = s.cfg := by
  simp [lineGet]
@[simp] theorem lineGet_lines (s : State) (i : Nat) : (s.lineGet i).lines = s.lines := by
  simp [lineGet]
@[simp] theorem lineGet_lcdPresent (s : State) (i : Nat) : (s.lineGet i).lcdPresent = s.lcdPresent := by
  simp [lineGet]
@[simp] theorem lineGet_lcdPins (s : State) (i : Nat) : (s.lineGet i).lcdPins = s.lcdPins := by
  simp [lineGet]
@[simp] theorem lineGet_cursorPosition (s : State) (i : Nat) : (s.lineGet i).cursorPosition = s.cursorPosition := by
  simp [lineGet]
@[simp] theorem lineGet_btns (s : State) (i : Nat) : (s.lineGet i).btns = s.btns := by
  simp [lineGet]
@[simp] theorem lineGet_pots (s : State) (i : Nat) : (s.lineGet i).pots = s.pots := by
  simp [lineGet]
@[simp] theorem lineGet_registry (s : State) (i : Nat) : (s.lineGet i).registry = s.registry := by
  simp [lineGet]
@[simp] theorem lineGet_shutdownActions (s : State) (i : Nat) : (s.lineGet i).shutdownActions = s.shutdownActions := by
  simp [lineGet]
@[simp] theorem lineGet_running (s : State) (i : Nat) : (s.lineGet i).running = s.running := by
  simp [lineGet]
@[simp] theorem lineGet_seqActive (s : State) (i : Nat) : (s.lineGet i).seqActive = s.seqActive := by
  simp [lineGet]
@[simp] theorem lineGet_passIdx (s : State) (i : Nat) : (s.lineGet i).passIdx = s.passIdx := by
  simp [lineGet]
@[simp] theorem lineGet_cbDepth (s : State) (i : Nat) : (s.lineGet i).cbDepth = s.cbDepth := by
  simp [lineGet]
@[simp] theorem lineGet_paused (s : State) (i : Nat) : (s.lineGet i).paused = s.paused := by
  simp [lineGet]
@[simp] theorem lineGet_inQuit (s : State) (i : Nat) : (s.lineGet i).inQuit = s.inQuit := by
  simp [lineGet]
@[simp] theorem lineGet_enableTimer (s : State) (i : Nat) : (s.lineGet i).enableTimer = s.enableTimer := by
  simp [lineGet]
@[simp] theorem lineGet_buttonTimer (s : State) (i : Nat) : (s.lineGet i).buttonTimer = s.buttonTimer := by
  simp [lineGet]
@[simp] theorem lineGet_trace (s : State) (i : Nat) : (s.lineGet i).trace = s.trace ++ [.get i (s.levelAnswer i)] := by
  simp [lineGet]
@[simp] theorem lineGet_replies (s : State) (i : Nat) : (s.lineGet i).replies = s.replies := by
  simp [lineGet]
@[simp] theorem lineGet_pending (s : State) (i : Nat) : (s.lineGet i).pending = s.pending := by
  simp [lineGet]
@[simp] theorem lineGet_levels (s : State) (i : Nat) : (s.lineGet i).levels = s.levels.tail := by
  simp [lineGet]
@[simp] theorem lineGet_samples (s : State) (i : Nat) : (s.lineGet i).samples = s.samples := by
  simp [lineGet]
@[simp] theorem lineGet_freeIdx (s : State) (i : Nat) : (s.lineGet i).freeIdx = if s.levels.isEmpty then s.freeIdx + 1 else s.freeIdx := by
  simp [lineGet]

/-! ### adcRead -/

@[simp] theorem adcRead_cfg (s : State) (j : Nat) : (s.adcRead j).cfg = s.cfg := by
  simp [adcRead]
@[simp] theorem adcRead_lines (s : State) (j : Nat) : (s.adcRead j).lines = s.lines := by
  simp [adcRead]
@[simp] theorem adcRead_lcdPresent (s : State) (j : Nat) : (s.adcRead j).lcdPresent = s.lcdPresent := by
  simp [adcRead]
@[simp] theorem adcRead_lcdPins (s : State) (j : Nat) : (s.adcRead j).lcdPins = s.lcdPins := by
  simp [adcRead]
@[simp] theorem adcRead_cursorPosition (s : State) (j : Nat) : (s.adcRead j).cursorPosition = s.cursorPosition := by
  simp [adcRead]
@[simp] theorem adcRead_btns (s : State) (j : Nat) : (s.adcRead j).btns = s.btns := by
  simp [adcRead]
@[simp] theorem adcRead_pots (s : State) (j : Nat) : (s.adcRead j).pots = s.pots := by
  simp [adcRead]
@[simp] theorem adcRead_registry (s : State) (j : Nat) : (s.adcRead j).registry = s.registry := by
  simp [adcRead]
@[simp] theorem adcRead_shutdownActions (s : State) (j : Nat) : (s.adcRead j).shutdownActions = s.shutdownActions := by
  simp [adcRead]
@[simp] theorem adcRead_running (s : State) (j : Nat) : (s.adcRead j).running = s.running := by
  simp [adcRead]
@[simp] theorem adcRead_seqActive (s : State) (j : Nat) : (s.adcRead j).seqActive = s.seqActive := by
  simp [adcRead]
@[simp] theorem adcRead_passIdx (s : State) (j : Nat) : (s.adcRead j).passIdx = s.passIdx := by
  simp [adcRead]
@[simp] theorem adcRead_cbDepth (s : State) (j : Nat) : (s.adcRead j).cbDepth = s.cbDepth := by
  simp [adcRead]
@[simp] theorem adcRead_paused (s : State) (j : Nat) : (s.adcRead j).paused = s.paused := by
  simp [adcRead]
@[simp] theorem adcRead_inQuit (s : State) (j : Nat) : (s.adcRead j).inQuit = s.inQuit := by
  simp [adcRead]
@[simp] theorem adcRead_enableTimer (s : State) (j : Nat) : (s.adcRead j).enableTimer = s.enableTimer := by
  simp [adcRead]
@[simp] theorem adcRead_buttonTimer (s : State) (j : Nat) : (s.adcRead j).buttonTimer = s.buttonTimer := by
  simp [adcRead]
@[simp] theorem adcRead_trace (s : State) (j : Nat) : (s.adcRead j).trace = s.trace ++ [.adc j (s.sampleAnswer j)] := by
  simp [adcRead]
@[simp] theorem adcRead_replies (s : State) (j : Nat) : (s.adcRead j).replies = s.replies := by
  simp [adcRead]
@[simp] theorem adcRead_pending (s : State) (j : Nat) : (s.adcRead j).pending = s.pending := by
  simp [adcRead]
@[simp] theorem adcRead_levels (s : State) (j : Nat) : (s.adcRead j).levels = s.levels := by
  simp [adcRead]
@[simp] theorem adcRead_samples (s : State) (j : Nat) : (s.adcRead j).samples = s.samples.tail := by
  simp [adcRead]
@[simp] theorem adcRead_freeIdx (s : State) (j : Nat) : (s.adcRead j).freeIdx = if s.samples.isEmpty then s.freeIdx + 1 else s.freeIdx := by
  simp [adcRead]

/-! ### finishPoll -/

@[simp] theorem finishPoll_cfg (s : State) : (s.finishPoll).cfg = s.cfg := by
  rcases s.finishPoll_cases with ⟨_, _, h⟩ | ⟨_, _, _, h⟩ | ⟨_, _, _, h⟩ | ⟨_, h⟩ <;> rw [h]
@[simp] theorem finishPoll_lines (s : State) : (s.finishPoll).lines = s.lines := by
  rcases s.finishPoll_cases with ⟨_, _, h⟩ | ⟨_, _, _, h⟩ | ⟨_, _, _, h⟩ | ⟨_, h⟩ <;> rw [h]
@[simp] theorem finishPoll_lcdPresent (s : State) : (s.finishPoll).lcdPresent = s.lcdPresent := by
  rcases s.finishPoll_cases with ⟨_, _, h⟩ | ⟨_, _, _, h⟩ | ⟨_, _, _, h⟩ | ⟨_, h⟩ <;> rw [h]
@[simp] theorem finishPoll_lcdPins (s : State) : (s.finishPoll).lcdPins = s.lcdPins := by
  rcases s.finishPoll_cases with ⟨_, _, h⟩ | ⟨_, _, _, h⟩ | ⟨_, _, _, h⟩ | ⟨_, h⟩ <;> rw [h]
@[simp] theorem finishPoll_cursorPosition (s : State) : (s.finishPoll).cursorPosition = s.cursorPosition := by
  rcases s.finishPoll_cases with ⟨_, _, h⟩ | ⟨_, _, _, h⟩ | ⟨_, _, _, h⟩ | ⟨_, h⟩ <;> rw [h]
@[simp] theorem finishPoll_btns (s : State) : (s.finishPoll).btns = s.btns := by
  rcases s.finishPoll_cases with ⟨_, _, h⟩ | ⟨_, _, _, h⟩ | ⟨_, _, _, h⟩ | ⟨_, h⟩ <;> rw [h]
@[simp] theorem finishPoll_pots (s : State) : (s.finishPoll).pots = s.pots := by
  rcases s.finishPoll_cases with ⟨_, _, h⟩ | ⟨_, _, _, h⟩ | ⟨_, _, _, h⟩ | ⟨_, h⟩ <;> rw [h]
@[simp] theorem finishPoll_registry (s : State) : (s.finishPoll).registry = s.registry := by
  rcases s.finishPoll_cases with ⟨_, _, h⟩ | ⟨_, _, _, h⟩ | ⟨_, _, _, h⟩ | ⟨_, h⟩ <;> rw [h]
@[simp] theorem finishPoll_shutdownActions (s : State) : (s.finishPoll).shutdownActions = s.shutdownActions := by
  rcases s.finishPoll_cases with ⟨_, _, h⟩ | ⟨_, _, _, h⟩ | ⟨_, _, _, h⟩ | ⟨_, h⟩ <;> rw [h]
@[simp] theorem finishPoll_running (s : State) : (s.finishPoll).running = s.running := by
  rcases s.finishPoll_cases with ⟨_, _, h⟩ | ⟨_, _, _, h⟩ | ⟨_, _, _, h⟩ | ⟨_, h⟩ <;> rw [h]
@[simp] theorem finishPoll_cbDepth (s : State) : (s.finishPoll).cbDepth = s.cbDepth := by
  rcases s.finishPoll_cases with ⟨_, _, h⟩ | ⟨_, _, _, h⟩ | ⟨_, _, _, h⟩ | ⟨_, h⟩ <;> rw [h]
@[simp] theorem finishPoll_paused (s : State) : (s.finishPoll).paused = s.paused := by
  rcases s.finishPoll_cases with ⟨_, _, h⟩ | ⟨_, _, _, h⟩ | ⟨_, _, _, h⟩ | ⟨_, h⟩ <;> rw [h]
@[simp] theorem finishPoll_inQuit (s : State) : (s.finishPoll).inQuit = s.inQuit := by
  rcases s.finishPoll_cases with ⟨_, _, h⟩ | ⟨_, _, _, h⟩ | ⟨_, _, _, h⟩ | ⟨_, h⟩ <;> rw [h]
@[simp] theorem finishPoll_enableTimer (s : State) : (s.finishPoll).enableTimer = s.enableTimer := by
  rcases s.finishPoll_cases with ⟨_, _, h⟩ | ⟨_, _, _, h⟩ | ⟨_, _, _, h⟩ | ⟨_, h⟩ <;> rw [h]
@[simp] theorem finishPoll_buttonTimer (s : State) : (s.finishPoll).buttonTimer = s.buttonTimer := by
  rcases s.finishPoll_cases with ⟨_, _, h⟩ | ⟨_, _, _, h⟩ | ⟨_, _, _, h⟩ | ⟨_, h⟩ <;> rw [h]
@[simp] theorem finishPoll_trace (s : State) : (s.finishPoll).trace = s.trace := by
  rcases s.finishPoll_cases with ⟨_, _, h⟩ | ⟨_, _, _, h⟩ | ⟨_, _, _, h⟩ | ⟨_, h⟩ <;> rw [h]
@[simp] theorem finishPoll_pending (s : State) : (s.finishPoll).pending = s.pending := by
  rcases s.finishPoll_cases with ⟨_, _, h⟩ | ⟨_, _, _, h⟩ | ⟨_, _, _, h⟩ | ⟨_, h⟩ <;> rw [h]
@[simp] theorem finishPoll_levels (s : State) : (s.finishPoll).levels = s.levels := by
  rcases s.finishPoll_cases with ⟨_, _, h⟩ | ⟨_, _, _, h⟩ | ⟨_, _, _, h⟩ | ⟨_, h⟩ <;> rw [h]
@[simp] theorem finishPoll_samples (s : State) : (s.finishPoll).samples = s.samples := by
  rcases s.finishPoll_cases with ⟨_, _, h⟩ | ⟨_, _, _, h⟩ | ⟨_, _, _, h⟩ | ⟨_, h⟩ <;> rw [h]
@[simp] theorem finishPoll_freeIdx (s : State) : (s.finishPoll).freeIdx = s.freeIdx := by
  rcases s.finishPoll_cases with ⟨_, _, h⟩ | ⟨_, _, _, h⟩ | ⟨_, _, _, h⟩ | ⟨_, h⟩ <;> rw [h]

/-! ### pollFault -/

@[simp] theorem pollFault_cfg (s : State) (d : Device) : (s.pollFault d).cfg = s.cfg := by
  rw [pollFault_eq]; split <;> simp
@[simp] theorem pollFault_lines (s : State) (d : Device) : (s.pollFault d).lines = s.lines := by
  rw [pollFault_eq]; split <;> simp
@[simp] theorem pollFault_lcdPresent (s : State) (d : Device) : (s.pollFault d).lcdPresent = s.lcdPresent := by
  rw [pollFault_eq]; split <;> simp
@[simp] theorem pollFault_lcdPins (s : State) (d : Device) : (s.pollFault d).lcdPins = s.lcdPins := by
  rw [pollFault_eq]; split <;> simp
@[simp] theorem pollFault_cursorPosition (s : State) (d : Device) : (s.pollFault d).cursorPosition = s.cursorPosition := by
  rw [pollFault_eq]; split <;> simp
@[simp] theorem pollFault_btns (s : State) (d : Device) : (s.pollFault d).btns = s.btns := by
  rw [pollFault_eq]; split <;> simp
@[simp] theorem pollFault_pots (s : State) (d : Device) : (s.pollFault d).pots = s.pots := by
  rw [pollFault_eq]; split <;> simp
@[simp] theorem pollFault_registry (s : State) (d : Device) : (s.pollFault d).registry = s.registry := by
  rw [pollFault_eq]; split <;> simp
@[simp] theorem pollFault_shutdownActions (s : State) (d : Device) : (s.pollFault d).shutdownActions = s.shutdownActions := by
  rw [pollFault_eq]; split <;> simp
@[simp] theorem pollFault_running (s : State) (d : Device) : (s.pollFault d).running = s.running := by
  rw [pollFault_eq]; split <;> simp
@[simp] theorem pollFault_cbDepth (s : State) (d : Device) : (s.pollFault d).cbDepth = s.cbDepth := by
  rw [pollFault_eq]; split <;> simp
@[simp] theorem pollFault_paused (s : State) (d : Device) : (s.pollFault d).paused = s.paused := by
  rw [pollFault_eq]; split <;> simp
@[simp] theorem pollFault_inQuit (s : State) (d : Device) : (s.pollFault d).inQuit = s.inQuit := by
  rw [pollFault_eq]; split <;> simp
@[simp] theorem pollFault_enableTimer (s : State) (d : Device) : (s.pollFault d).enableTimer = s.enableTimer := by
  rw [pollFault_eq]; split <;> simp
@[simp] theorem pollFault_buttonTimer (s : State) (d : Device) : (s.pollFault d).buttonTimer = s.buttonTimer := by
  rw [pollFault_eq]; split <;> simp
@[simp] theorem pollFault_trace (s : State) (d : Device) : (s.pollFault d).trace = s.trace := by
  rw [pollFault_eq]; split <;> simp
@[simp] theorem pollFault_pending (s : State) (d : Device) : (s.pollFault d).pending = s.pending := by
  rw [pollFault_eq]; split <;> simp
@[simp] theorem pollFault_levels (s : State) (d : Device) : (s.pollFault d).levels = s.levels := by
  rw [pollFault_eq]; split <;> simp
@[simp] theorem pollFault_samples (s : State) (d : Device) : (s.pollFault d).samples = s.samples := by
  rw [pollFault_eq]; split <;> simp
@[simp] theorem pollFault_freeIdx (s : State) (d : Device) : (s.pollFault d).freeIdx = s.freeIdx := by
  rw [pollFault_eq]; split <;> simp

end Sys2Proof.Machine.State
end

