-- ==== Sys2Proof/Laws/Effect.lean ====
section
/-! SUPPORT. Everything an operation can do, said once: the effects with which exec answers a next state. -/

namespace Sys2Proof.Machine

/-- The operations that only send frames, write the counter and reply. -/
def isLcdOperation : Instr → Bool
  | .lcdInit _ _ | .teardown | .btnInit _ _ _ _ | .btnPoll _ | .potInit _ _ _ | .potValue _
  | .potPoll _ | .run | .quit => false
  | _ => true

/-- The effects of the operations: `Effect s i t` when `i` can take `s` to `t`. -/
inductive Effect (s : State) : Instr → State → Prop where
  /-- an LCD operation: frames, the counter, a reply -/
  | lcd (i : Instr) (ws : List (Bool × Byte)) (c : Int) (r : Reply)
      (control : s.hostHasControl = true) (present : s.lcdPresent = true)
      (kind : isLcdOperation i = true)
      (counter : c = s.cursorPosition ∨ i = .clear ∨ i = .home ∨ (∃ text, i = .write text)
        ∨ (∃ n, i = .moveCursor n) ∨ (i = .newLine ∧ s.cfg.newlineCpMode = .advance)) :
      Effect s i (State.report { s.afterFrames ws with cursorPosition := c } r)
  /-- an LCD_INIT ended by ConfigFault -/
  | lcdInitFault (pins : List Pin) (text : Option (List Nat)) (qs : List Pin)
      (cause : ConfigCause) (idle : s.constructible) (absent : s.lcdPresent = false) :
      Effect s (.lcdInit pins text)
        ((s.record (qs.map (fun q => .cfg .output q none))).raise (.configFault .lcd cause))
  /-- an LCD_INIT that constructs the LCD -/
  | lcdInitDone (pins : List Pin) (text : Option (List Nat)) (idle : s.constructible)
      (absent : s.lcdPresent = false) (ten : pins.length = 10) :
      Effect s (.lcdInit pins text) (State.report
        { (s.record (pins.map (fun p => .cfg .output p none))).afterFrames
            ([(false, 0x38), (false, 0x0F), (false, 0x06), (false, 0x01)]
              ++ (initialText text).map (fun c => (true, charByte c))) with
          lcdPins := pins, lcdPresent := true, cursorPosition := 1 + (initialText text).length
          shutdownActions := s.shutdownActions ++ [.teardown] } .done)
  /-- TEARDOWN inside a QUIT -/
  | teardown (inside : s.inQuit = true) :
      Effect s .teardown
        { s.afterFrames [(false, 0x01), (false, 0x08)] with cursorPosition := 1 }
  | btnInit (i : Nat) (pin : Pin) (cb : Bool) (interval : Option Duration) (idle : s.constructible)
      (b : Btn) (atIndex : s.btns[i]? = some b) (absent : b.present = false)
      (inType : intervalInType (intervalOf interval) = true) :
      Effect s (.btnInit i pin cb interval) (s.btnInit i pin cb (intervalOf interval))
  | btnPoll (i : Nat) (b : Btn) (pollable : s.pollable (.btn i)) (atIndex : s.btns[i]? = some b)
      (present : b.present = true) : Effect s (.btnPoll i) (s.btnPoll i b)
  | potInit (j : Nat) (pin : Pin) (cb : Bool) (idle : s.constructible) (p : Pot)
      (atIndex : s.pots[j]? = some p) (absent : p.present = false) :
      Effect s (.potInit j pin cb) (s.potInit j pin cb)
  | potValue (j : Nat) (p : Pot) (control : s.hostHasControl = true)
      (atIndex : s.pots[j]? = some p) (present : p.present = true) :
      Effect s (.potValue j) (s.potValue j)
  | potPoll (j : Nat) (p : Pot) (pollable : s.pollable (.pot j)) (atIndex : s.pots[j]? = some p)
      (present : p.present = true) : Effect s (.potPoll j) (s.potPoll j p)
  | run (idle : s.hostIdle) : Effect s .run s.startRun
  | quit (control : s.hostHasControl = true) :
      Effect s .quit (State.report
        { s.afterFrames (shutdownFrames s.shutdownActions) with
          cursorPosition := if s.shutdownActions = [] then s.cursorPosition else 1
          running := false, inQuit := false } .done)

/-- One frame leaves the counter alone. -/
theorem Effect.ofFrame (s t : State) (i : Instr) (rs : Bool) (b : Byte)
    (hi : isLcdOperation i = true) (h : sendFrame rs b s = .next t) : Effect s i t := by
  obtain ⟨hc, hl, rfl⟩ := (sendFrame_next_iff rs b s t).1 h
  exact .lcd i [(rs, b)] s.cursorPosition .done hc hl hi (.inl rfl)

theorem Effect.ofByte (s t : State) (i : Instr) (rs : Bool) (b : Int)
    (hi : isLcdOperation i = true) (h : sendByte rs b s = .next t) : Effect s i t := by
  obtain ⟨-, hc, hl, rfl⟩ := (sendByte_next_iff rs b s t).1 h
  exact .lcd i [(rs, byteOf b)] s.cursorPosition .done hc hl hi (.inl rfl)

theorem Effect.ofHome (s t : State) (i : Instr) (op : OpcodeName)
    (hi : i = .clear ∨ i = .home) (h : sendHome op s = .next t) : Effect s i t := by
  obtain ⟨hc, hl, rfl⟩ := (sendHome_next_iff op s t).1 h
  refine .lcd i [(false, opcodeByte op)] 1 .done hc hl ?_ (.inr (hi.imp id .inl))
  rcases hi with rfl | rfl <;> rfl

theorem Effect.ofNewLine (s t : State) (h : execNewLine s = .next t) : Effect s .newLine t := by
  obtain ⟨hc, hl, rfl⟩ := (execNewLine_next_iff s t).1 h
  rw [State.newLine_eq]
  refine .lcd _ _ _ .done hc hl rfl ?_
  cases hm : s.cfg.newlineCpMode
  · exact .inl rfl
  · exact .inr (.inr (.inr (.inr (.inr ⟨rfl, rfl⟩))))

theorem Effect.ofLcdInit (s t : State) (pins : List Pin) (text : Option (List Nat))
    (h : execLcdInit pins text s = .next t) : Effect s (.lcdInit pins text) t := by
  obtain ⟨hi, hp, -, rfl⟩ := (execLcdInit_next_iff pins text s t).1 h
  rcases s.lcdInit_cases pins (initialText text) with he | ⟨qs, p, he⟩ | ⟨hl, hok⟩
  · have := Effect.lcdInitFault (s := s) pins text [] .length hi hp
    rw [he]
    simpa [State.record] using this
  · rw [he]
    exact .lcdInitFault pins text qs (.pin p) hi hp
  · rw [State.lcdInit_accepted s pins _ hl hok]
    exact .lcdInitDone pins text hi hp hl

/-- Whenever exec answers a next state, it is by one of the effects. -/
theorem exec_effect (i : Instr) (s t : State) (h : exec i s = .next t) : Effect s i t := by
  cases i with
  | lcdInit pins text => exact .ofLcdInit s t pins text h
  | sendCommand b => exact .ofByte s t _ false b rfl h
  | sendData b => exact .ofByte s t _ true b rfl h
  | write text =>
    obtain ⟨-, hc, hl, rfl⟩ := (execWrite_next_iff text s t).1 h
    exact .lcd _ _ _ .done hc hl rfl (.inr (.inr (.inr (.inl ⟨text, rfl⟩))))
  | moveCursor n =>
    obtain ⟨hc, hl, rfl⟩ := (execMoveCursor_next_iff n s t).1 h
    exact .lcd _ _ _ .done hc hl rfl (.inr (.inr (.inr (.inr (.inl ⟨n, rfl⟩)))))
  | newLine => exact .ofNewLine s t h
  | clear => exact .ofHome s t _ .clearDisplay (.inl rfl) h
  | home => exact .ofHome s t _ .moveHome (.inr rfl) h
  | rdCursor =>
    obtain ⟨hc, hl, rfl⟩ := (execRdCursor_next_iff s t).1 h
    have := Effect.lcd (s := s) .rdCursor [] s.cursorPosition (.cursor s.cursorPosition) hc hl rfl
      (.inl rfl)
    simpa using this
  | teardown =>
    obtain ⟨hq, rfl⟩ := (execTeardown_next_iff s t).1 h
    exact .teardown hq
  | btnInit i pin cb interval =>
    obtain ⟨hi, b, hb, hp, hd, rfl⟩ := (execBtnInit_next_iff i pin cb interval s t).1 h
    exact .btnInit i pin cb interval hi b hb hp hd
  | btnPoll i =>
    obtain ⟨hp, b, hb, hpr, rfl⟩ := (execBtnPoll_next_iff i s t).1 h
    exact .btnPoll i b hp hb hpr
  | potInit j pin cb =>
    obtain ⟨hi, p, hp, hpr, rfl⟩ := (execPotInit_next_iff j pin cb s t).1 h
    exact .potInit j pin cb hi p hp hpr
  | potValue j =>
    obtain ⟨hc, p, hp, hpr, rfl⟩ := (execPotValue_next_iff j s t).1 h
    exact .potValue j p hc hp hpr
  | potPoll j =>
    obtain ⟨hp, p, hb, hpr, rfl⟩ := (execPotPoll_next_iff j s t).1 h
    exact .potPoll j p hp hb hpr
  | run =>
    obtain ⟨hi, rfl⟩ := (execRun_next_iff s t).1 h
    exact .run hi
  | quit =>
    obtain ⟨hc, rfl⟩ := (execQuit_next_iff s t).1 h
    exact .quit hc
  | lcdOn => exact .ofFrame s t _ _ _ rfl h
  | lcdOff => exact .ofFrame s t _ _ _ rfl h
  | cursorOn => exact .ofFrame s t _ _ _ rfl h
  | cursorOff => exact .ofFrame s t _ _ _ rfl h
  | showCursor => exact .ofFrame s t _ _ _ rfl h
  | hideCursor => exact .ofFrame s t _ _ _ rfl h
  | blinkOn => exact .ofFrame s t _ _ _ rfl h
  | blinkOff => exact .ofFrame s t _ _ _ rfl h
  | scrollLeft => exact .ofFrame s t _ _ _ rfl h
  | scrollRight => exact .ofFrame s t _ _ _ rfl h
  | frameClearDisplay => exact .ofFrame s t _ _ _ rfl h
  | frameMoveHome => exact .ofFrame s t _ _ _ rfl h
  | frameEntryMode => exact .ofFrame s t _ _ _ rfl h
  | frameTurnOff => exact .ofFrame s t _ _ _ rfl h
  | frameBlinkOff => exact .ofFrame s t _ _ _ rfl h
  | frameBlinkOn => exact .ofFrame s t _ _ _ rfl h
  | frameMoveLeft => exact .ofFrame s t _ _ _ rfl h
  | frameMoveRight => exact .ofFrame s t _ _ _ rfl h
  | frameScrollLeft => exact .ofFrame s t _ _ _ rfl h
  | frameScrollRight => exact .ofFrame s t _ _ _ rfl h
  | frameFont5x7 => exact .ofFrame s t _ _ _ rfl h
  | frameData d => exact .ofFrame s t _ _ _ rfl h

/-! ## The effects of the devices, case by case -/

/-- What BTN_INIT leaves: the rejected pin, the failed read, or the constructed button. -/
theorem State.btnInit_cases (s : State) (i : Nat) (pin : Pin) (cb : Bool) (d : Duration) :
    s.btnInit i pin cb d = s.raise (.configFault (.btn i) (.pin pin))
    ∨ s.btnInit i pin cb d
        = ((s.configured .input pin (some (s.cfg.pullOf i))).lineGet i).raise (.pollFault (.btn i))
    ∨ ∃ level, s.btnInit i pin cb d
        = ((((s.configured .input pin (some (s.cfg.pullOf i))).lineGet i).putBtn i
            { present := true, pin := pin, pressed := level, cb := cb, repeatInterval := d }
          ).register (.btn i)).report .done := by
  unfold State.btnInit
  split
  · simp only
    split
    · exact .inr (.inl rfl)
    · exact .inr (.inr ⟨_, rfl⟩)
  · exact .inl rfl

/-- What BTN_POLL leaves: the fault, the window, or the end of the poll after a high or a low reading. -/
theorem State.btnPoll_cases (s : State) (i : Nat) (b : Btn) :
    s.btnPoll i b = (s.lineGet i).pollFault (.btn i)
    ∨ (b.cb = true ∧ b.pressed = false ∧ s.btnPoll i b
        = ((s.lineGet i).putBtn i { b with pressed := true }).openWindow (.btnPoll i))
    ∨ s.btnPoll i b = ((s.lineGet i).putBtn i { b with pressed := true }).finishPoll
    ∨ s.btnPoll i b
        = (((s.lineGet i).putBtn i { b with pressed := false }).holdButton b.repeatInterval).finishPoll := by
  unfold State.btnPoll
  split
  · exact .inl rfl
  · unfold State.btnHigh
    split
    · rename_i h
      exact .inr (.inl ⟨by simp_all [pressEvent], by simp_all [pressEvent], rfl⟩)
    · exact .inr (.inr (.inl rfl))
  · exact .inr (.inr (.inr rfl))

/-- What POT_INIT leaves: the rejected pin, the failed read, or the constructed potentiometer. -/
theorem State.potInit_cases (s : State) (j : Nat) (pin : Pin) (cb : Bool) :
    s.potInit j pin cb = s.raise (.configFault (.pot j) (.pin pin))
    ∨ s.potInit j pin cb
        = ((s.configured .analog pin none).adcRead j).raise (.pollFault (.pot j))
    ∨ (s.cfg.potInitMode = .noValue ∧ s.potInit j pin cb
        = (s.configured .analog pin none).potConstructed j pin cb none)
    ∨ ∃ q, q ≤ 100 ∧ s.potInit j pin cb
        = ((s.configured .analog pin none).adcRead j).potConstructed j pin cb (some q) := by
  unfold State.potInit
  split
  · simp only
    split
    · rename_i hm
      exact .inr (.inr (.inl ⟨hm, rfl⟩))
    · split
      · exact .inr (.inl rfl)
      · rename_i raw hs
        exact .inr (.inr (.inr ⟨_, potQ_le s.cfg raw (State.sampleAnswer_le _ j raw hs), rfl⟩))
  · exact .inl rfl

/-- What POT_POLL leaves: the fault, the window, or the stored value and the end of the poll. -/
theorem State.potPoll_cases (s : State) (j : Nat) (p : Pot) :
    s.potPoll j p = (s.adcRead j).pollFault (.pot j)
    ∨ (∃ q, q ≤ 100 ∧ p.cb = true ∧ p.lastValue ≠ some q
        ∧ s.potPoll j p = (s.adcRead j).openWindow (.potPoll j q))
    ∨ ∃ q, q ≤ 100 ∧ s.potPoll j p = ((s.adcRead j).storeLast j q).finishPoll := by
  unfold State.potPoll
  split
  · exact .inl rfl
  · rename_i raw hs
    have hq := potQ_le s.cfg raw (State.sampleAnswer_le s j raw hs)
    unfold State.potRead
    split
    · rename_i h
      exact .inr (.inl ⟨_, hq, by simp_all [changeEvent], by simp_all [changeEvent], rfl⟩)
    · exact .inr (.inr ⟨_, hq, rfl⟩)

/-- What POT_VALUE leaves: one reading and one reply. -/
theorem State.potValue_cases (s : State) (j : Nat) :
    ∃ r, s.potValue j = (s.adcRead j).report r := by
  unfold State.potValue State.raise
  split <;> exact ⟨_, rfl⟩

end Sys2Proof.Machine
end

