-- ==== Sys2Proof/Machine/Realisation.lean ====
section
/-! DEFINITION. Realisations with a finite counter register or finite tables: the machine, with the operations refused that would leave them. -/

namespace Sys2Proof.Machine

/-- What a realisation bounds. `none` is the spec's own machine: a mathematical integer and unbounded
sequences (spec/00_scope.md R11 `CP_W`, spec/10_state.md R34, R49). -/
structure Realisation where
  /-- The width W of a signed register for `cursor_position` (spec/10_state.md R37). -/
  counterWidth : Option Nat := none
  /-- The capacity of `registry` and of `shutdown_actions` (spec/10_state.md R49). -/
  tableSize : Option Nat := none
  deriving DecidableEq, Repr

/-- A signed W-bit register holds `-2^(W-1) .. 2^(W-1)-1` (spec/10_state.md R37). -/
def counterFits (width : Option Nat) (c : Int) : Bool :=
  match width with
  | none => true
  | some w => decide (-2 ^ (w - 1) ≤ c ∧ c < 2 ^ (w - 1))

/-- A table of the given size holds that many entries. -/
def tableFits (size : Option Nat) (n : Nat) : Bool :=
  match size with
  | none => true
  | some k => decide (n ≤ k)

/-- An outcome as a realisation has it: where the next state would leave a register or a table, the
operation is refused instead, with no effect; it neither wraps nor saturates (spec/10_state.md R37, R49,
spec/93_implementation_defined.md U3, U4 and section 2 item 13; log 27). -/
def Realisation.bound (r : Realisation) (o : Result) : Result :=
  match o with
  | .next t =>
    if counterFits r.counterWidth t.cursorPosition = false then
      .refused (.counterOutOfWidth t.cursorPosition)
    else if tableFits r.tableSize t.registry.length = false
        ∨ tableFits r.tableSize t.shutdownActions.length = false then .refused .tableFull
    else .next t
  | .fault f => .fault f
  | .refused e => .refused e

/-- An operation on a realisation. -/
def Realisation.exec (r : Realisation) (i : Instr) (s : State) : Result :=
  r.bound (Sys2Proof.Machine.exec i s)

/-- A step of a realisation. -/
def Realisation.step (r : Realisation) (s : State) : Result :=
  r.bound (Sys2Proof.Machine.step s)

end Sys2Proof.Machine
end

