-- ==== Sys2Proof/Laws/Realisation.lean ====
section
/-! SUPPORT. What a realisation does: it agrees with the machine exactly while its registers and tables hold the next state, and refuses what would leave them. -/

namespace Sys2Proof.Machine

/-- The next state lies within the register and the tables. -/
def Realisation.holds (r : Realisation) (t : State) : Prop :=
  counterFits r.counterWidth t.cursorPosition = true
    ∧ tableFits r.tableSize t.registry.length = true
    ∧ tableFits r.tableSize t.shutdownActions.length = true

@[simp] theorem counterFits_none (c : Int) : counterFits none c = true := rfl
@[simp] theorem tableFits_none (n : Nat) : tableFits none n = true := rfl

theorem counterFits_iff (w : Nat) (c : Int) :
    counterFits (some w) c = true ↔ -2 ^ (w - 1) ≤ c ∧ c < 2 ^ (w - 1) := by simp [counterFits]

/-- Between two values the register holds it holds every value: the counter's values inside a WRITE
lie between its first and its last. -/
theorem counterFits_between (width : Option Nat) (a b c : Int) (ha : counterFits width a = true)
    (hb : counterFits width b = true) (hac : a ≤ c) (hcb : c ≤ b) : counterFits width c = true := by
  cases width with
  | none => rfl
  | some w => rw [counterFits_iff] at *; omega

/-- A realisation answers a next state exactly when the machine answers it and it fits
(spec/10_state.md R37). -/
theorem Realisation.bound_next_iff (r : Realisation) (o : Result) (t : State) :
    r.bound o = .next t ↔ o = .next t ∧ r.holds t := by
  cases o with
  | next u =>
    have key : r.bound (.next u) = .next t ↔ r.holds u ∧ u = t := by
      unfold Realisation.bound Realisation.holds
      cases h1 : counterFits r.counterWidth u.cursorPosition <;>
        cases h2 : tableFits r.tableSize u.registry.length <;>
        cases h3 : tableFits r.tableSize u.shutdownActions.length <;> simp [h1, h2, h3]
    rw [key]
    constructor
    · rintro ⟨h, rfl⟩; exact ⟨rfl, h⟩
    · rintro ⟨h, hf⟩; cases h; exact ⟨hf, rfl⟩
  | fault f => simp [Realisation.bound]
  | refused e => simp [Realisation.bound]

theorem Realisation.exec_next_iff (r : Realisation) (i : Instr) (s t : State) :
    r.exec i s = .next t ↔ Machine.exec i s = .next t ∧ r.holds t := r.bound_next_iff _ t

theorem Realisation.step_next_iff (r : Realisation) (s t : State) :
    r.step s = .next t ↔ Machine.step s = .next t ∧ r.holds t := r.bound_next_iff _ t

/-- An operation that would take the counter out of its register is refused. -/
theorem Realisation.exec_counter_refused (r : Realisation) (i : Instr) (s t : State)
    (h : Machine.exec i s = .next t) (hc : counterFits r.counterWidth t.cursorPosition = false) :
    r.exec i s = .refused (.counterOutOfWidth t.cursorPosition) := by
  simp [Realisation.exec, Realisation.bound, h, hc]

/-- With nothing bounded a realisation is the machine. -/
theorem Realisation.unbounded_bound (o : Result) : ({} : Realisation).bound o = o := by
  cases o <;> simp [Realisation.bound]

theorem Realisation.unbounded_exec (i : Instr) (s : State) :
    ({} : Realisation).exec i s = Machine.exec i s := unbounded_bound _

/-- MOVE_CURSOR on a W-bit register: refused exactly by the sum that leaves the range. -/
theorem Realisation.exec_moveCursor_refused (w : Nat) (n : Int) (s : State)
    (hc : s.hostHasControl = true) (hl : s.lcdPresent = true)
    (h : counterFits (some w) (s.cursorPosition + n) = false) :
    Realisation.exec { counterWidth := some w } (.moveCursor n) s
      = .refused (.counterOutOfWidth (s.cursorPosition + n)) :=
  exec_counter_refused { counterWidth := some w } (.moveCursor n) s _
    ((execMoveCursor_next_iff n s _).2 ⟨hc, hl, rfl⟩) h

end Sys2Proof.Machine
end

