-- ==== Sys2Proof/Tests/Slice0.lean ====
section
/-! SUPPORT. Tests: ill-formed operands, one word per operation, single steps with the results of spec/95_test_vectors.md, and for each statement a state that meets its hypotheses. -/

namespace Sys2Proof.Tests

open Sys2Proof.Machine

/-! ## Ill-formed operands (spec/30_encoding.md R117) -/

theorem test_wf_refuses_byte_256 : (Instr.sendCommand 256).wf = false := by decide
theorem test_wf_refuses_negative_byte : (Instr.sendData (-1)).wf = false := by decide
theorem test_wf_refuses_code_20AC : (Instr.write [65, 0x20AC]).wf = false := by decide
theorem test_wf_refuses_initial_text : (Instr.lcdInit [] (some [256])).wf = false := by decide
theorem test_wf_refuses_negative_interval : (Instr.btnInit 0 0 true (some (-1))).wf = false := by
  decide
theorem test_wf_admits_bounds :
    (Instr.sendCommand 255).wf = true ∧ (Instr.sendData 0).wf = true
      ∧ (Instr.write [0, 255]).wf = true ∧ (Instr.btnInit 0 0 true (some 0)).wf = true := by decide

/-! ## Words, from the selectors of spec/30_encoding.md R116 and the frame words of R108 and R111 -/

/-- The ten pins of a test, by position. -/
def tenPins : List Pin := [0, 1, 2, 3, 4, 5, 6, 7, 8, 9]

theorem test_decode_lcdInit :
    decode (.op 0b00000000 [.pins tenPins, .text [72, 105]]) = .ok (.lcdInit tenPins (some [72, 105]))
      := by decide
theorem test_decode_lcdInit_no_text :
    decode (.op 0b00000000 [.pins tenPins, .absent]) = .ok (.lcdInit tenPins none) := by decide
theorem test_decode_sendCommand :
    decode (.op 0b00000001 [.byte 0x38]) = .ok (.sendCommand 0x38) := by decide
theorem test_decode_sendData :
    decode (.op 0b00000010 [.byte 0x41]) = .ok (.sendData 0x41) := by decide
theorem test_decode_write :
    decode (.op 0b00000011 [.text [65, 66]]) = .ok (.write [65, 66]) := by decide
theorem test_decode_moveCursor :
    decode (.op 0b00000100 [.int (-1)]) = .ok (.moveCursor (-1)) := by decide
theorem test_decode_newLine : decode (.op 0b00000101 []) = .ok .newLine := by decide
theorem test_decode_lcdOn : decode (.op 0b00000110 []) = .ok .lcdOn := by decide
theorem test_decode_lcdOff : decode (.op 0b00000111 []) = .ok .lcdOff := by decide
theorem test_decode_clear : decode (.op 0b00001000 []) = .ok .clear := by decide
theorem test_decode_home : decode (.op 0b00001001 []) = .ok .home := by decide
theorem test_decode_cursorOn : decode (.op 0b00001010 []) = .ok .cursorOn := by decide
theorem test_decode_cursorOff : decode (.op 0b00001011 []) = .ok .cursorOff := by decide
theorem test_decode_showCursor : decode (.op 0b00001100 []) = .ok .showCursor := by decide
theorem test_decode_hideCursor : decode (.op 0b00001101 []) = .ok .hideCursor := by decide
theorem test_decode_blinkOn : decode (.op 0b00001110 []) = .ok .blinkOn := by decide
theorem test_decode_blinkOff : decode (.op 0b00001111 []) = .ok .blinkOff := by decide
theorem test_decode_scrollLeft : decode (.op 0b00010000 []) = .ok .scrollLeft := by decide
theorem test_decode_scrollRight : decode (.op 0b00010001 []) = .ok .scrollRight := by decide
theorem test_decode_teardown : decode (.op 0b00010010 []) = .ok .teardown := by decide
theorem test_decode_btnInit :
    decode (.op 0b00010011 [.index 1, .pin 20, .callback true, .interval 100])
      = .ok (.btnInit 1 20 true (some 100)) := by decide
theorem test_decode_btnInit_default :
    decode (.op 0b00010011 [.index 1, .pin 20, .callback false, .absent])
      = .ok (.btnInit 1 20 false none) := by decide
theorem test_decode_btnPoll : decode (.op 0b00010100 [.index 3]) = .ok (.btnPoll 3) := by decide
theorem test_decode_potInit :
    decode (.op 0b00010101 [.index 2, .pin 30, .callback true]) = .ok (.potInit 2 30 true) := by
  decide
theorem test_decode_potValue : decode (.op 0b00010110 [.index 4]) = .ok (.potValue 4) := by decide
theorem test_decode_potPoll : decode (.op 0b00010111 [.index 5]) = .ok (.potPoll 5) := by decide
theorem test_decode_run : decode (.op 0b00011000 []) = .ok .run := by decide
theorem test_decode_quit : decode (.op 0b00011001 []) = .ok .quit := by decide
theorem test_decode_rdCursor : decode (.op 0b00011010 []) = .ok .rdCursor := by decide
theorem test_decode_unassigned :
    decode (.op 0b00011011 []) = .error (.unassignedSelector 0x1B) := by decide
theorem test_decode_wrong_operands :
    decode (.op 0b00000001 [.index 0x38]) = .error (.wrongOperands 0x01) := by decide

theorem test_decode_frameClearDisplay :
    decode (.frame 0b000000001) = .ok .frameClearDisplay := by decide
theorem test_decode_frameMoveHome : decode (.frame 0b000000010) = .ok .frameMoveHome := by decide
theorem test_decode_frameEntryMode : decode (.frame 0b000000110) = .ok .frameEntryMode := by decide
theorem test_decode_frameTurnOff : decode (.frame 0b000001000) = .ok .frameTurnOff := by decide
theorem test_decode_frameBlinkOff : decode (.frame 0b000001100) = .ok .frameBlinkOff := by decide
theorem test_decode_frameBlinkOn : decode (.frame 0b000001111) = .ok .frameBlinkOn := by decide
theorem test_decode_frameMoveLeft : decode (.frame 0b000010000) = .ok .frameMoveLeft := by decide
theorem test_decode_frameMoveRight : decode (.frame 0b000010100) = .ok .frameMoveRight := by decide
theorem test_decode_frameScrollLeft :
    decode (.frame 0b000011000) = .ok .frameScrollLeft := by decide
theorem test_decode_frameScrollRight :
    decode (.frame 0b000011100) = .ok .frameScrollRight := by decide
theorem test_decode_frameFont5x7 : decode (.frame 0b000111000) = .ok .frameFont5x7 := by decide
theorem test_decode_frameData : decode (.frame 0b101000001) = .ok (.frameData 0x41) := by decide
theorem test_decode_unnamed_frame :
    decode (.frame 0b011111111) = .error (.unnamedFrame 0x0FF) := by decide

/-! ## Small states -/

/-- A button before BTN_INIT. -/
def newBtn : Btn := {}

/-- A potentiometer before POT_INIT. -/
def newPot : Pot := {}

/-- Nothing constructed; one button and one potentiometer exist. -/
def bare : State := { btns := [newBtn], pots := [newPot] }

/-- The LCD constructed, the counter at 7. -/
def ready : State :=
  { bare with
    lcdPresent := true, lcdPins := tenPins, cursorPosition := 7, shutdownActions := [.teardown] }

/-- Button 0 constructed, with the answers its line gives. -/
def withBtn (pressed cb : Bool) (levels : List (Option Bool)) : State :=
  { bare with
    btns := [{ present := true, pin := 20, pressed := pressed, cb := cb }]
    registry := [.btn 0], levels := levels }

/-- Potentiometer 0 constructed, with the samples its channel gives. -/
def withPot (last : Option Nat) (cb : Bool) (samples : List (Option Nat)) : State :=
  { bare with
    pots := [{ present := true, pin := 30, lastValue := last, cb := cb }]
    registry := [.pot 0], samples := samples }

/-- The same block with RUN in progress. -/
def inRun (s : State) : State := { s with seqActive := true }

/-- The same block with the window of button 0 open. -/
def inWindow (s : State) : State := { s with cbDepth := 1, paused := some (.btnPoll 0) }

/-- The same block with the host's next word. -/
def hostSends (s : State) (sel : BitVec 8) (args : List Operand) : State :=
  { s with pending := [.word (.op sel args)] }

/-- The state an outcome answers with. -/
def nextOf : Result → Option State
  | .next t => some t
  | .fault _ => none
  | .refused _ => none

/-- Why an outcome is a refusal. -/
def refusalOf : Result → Option Refusal
  | .next _ => none
  | .fault _ => none
  | .refused r => some r

/-- The frame words, the counter and the last reply after an operation. -/
def seen (i : Instr) (s : State) : Option (List (BitVec 9) × Int × Option Reply) :=
  (nextOf (exec i s)).map
    (fun t => (frameSequence s.lines t.trace, t.cursorPosition, t.replies.getLast?))

/-! ## LCD operations, one step each -/

/-- spec/95_test_vectors.md V1 -/
theorem test_sendCommand_trace :
    (nextOf (exec (.sendCommand 0x38) ready)).map State.trace = some
      [.set .rs false, .set .d7 false, .set .d6 false, .set .d5 true, .set .d4 true, .set .d3 true,
        .set .d2 false, .set .d1 false, .set .d0 false, .set .e true, .holdAtLeast 4,
        .set .e false] := by decide

/-- V4: ClearDisplay by SEND_COMMAND keeps the counter -/
theorem test_sendCommand_keeps_counter :
    seen (.sendCommand 0x01) ready = some ([0x001], 7, some .done) := by decide

/-- V3 -/
theorem test_sendData_frame : seen (.sendData 65) ready = some ([0x141], 7, some .done) := by
  decide

/-- V3: the lines after the frame -/
theorem test_sendData_lines :
    (nextOf (exec (.sendData 65) ready)).map State.lines
      = some { rs := true, d6 := true, d0 := true } := by decide

/-- V30 from the counter 7 -/
theorem test_write_AB : seen (.write [65, 66]) ready = some ([0x141, 0x142], 9, some .done) := by
  decide

/-- V31, V34 -/
theorem test_write_bounds :
    seen (.write []) ready = some ([], 7, some .done)
      ∧ seen (.write [255, 0]) ready = some ([0x1FF, 0x100], 9, some .done) := by decide

/-- V41 from the counter 7 -/
theorem test_moveCursor_left :
    seen (.moveCursor (-2)) ready = some ([0x010, 0x010], 5, some .done) := by decide

/-- V40, V42 -/
theorem test_moveCursor_right_and_zero :
    seen (.moveCursor 1) ready = some ([0x014], 8, some .done)
      ∧ seen (.moveCursor 0) ready = some ([], 7, some .done) := by decide

/-- The last and the first value of an 8-bit register, and the values beyond, from
spec/10_state.md R37: 127 is reached, 128 and -129 are refused; the machine itself goes on. -/
theorem test_realisation_moveCursor :
    let r : Realisation := { counterWidth := some 8 }
    r.exec (.moveCursor 1) { ready with cursorPosition := 126 }
        = exec (.moveCursor 1) { ready with cursorPosition := 126 }
      ∧ r.exec (.moveCursor 1) { ready with cursorPosition := 127 }
        = .refused (.counterOutOfWidth 128)
      ∧ r.exec (.moveCursor (-1)) { ready with cursorPosition := -128 }
        = .refused (.counterOutOfWidth (-129))
      ∧ (seen (.moveCursor 1) { ready with cursorPosition := 127 }).isSome = true :=
  ⟨rfl, rfl, rfl, rfl⟩

/-- A table of one entry (spec/93_implementation_defined.md U4). -/
theorem test_realisation_tableFull :
    ({ tableSize := some 1 } : Realisation).exec (.btnInit 0 20 true none)
        { bare with registry := [.pot 0], levels := [some true] } = .refused .tableFull := rfl

/-- V52, V53: one cell left in the row, and none -/
theorem test_newLine_unchanged :
    seen .newLine { ready with cursorPosition := 40 } = some ([0x014], 40, some .done)
      ∧ seen .newLine { ready with cursorPosition := 41 } = some ([], 41, some .done) := by decide

/-- V52, V54 under the other mode -/
theorem test_newLine_advance :
    seen .newLine { ready with cfg := { newlineCpMode := .advance }, cursorPosition := 40 }
        = some ([0x014], 41, some .done)
      ∧ seen .newLine { ready with cfg := { newlineCpMode := .advance }, cursorPosition := 42 }
        = some ([], 42, some .done) := by decide

/-- V58 -/
theorem test_rdCursor : seen .rdCursor ready = some ([], 7, some (.cursor 7)) := by decide

/-- V100 to V111 -/
theorem test_lcdOn : seen .lcdOn ready = some ([0x00F], 7, some .done) := by decide
theorem test_lcdOff : seen .lcdOff ready = some ([0x008], 7, some .done) := by decide
theorem test_clear : seen .clear ready = some ([0x001], 1, some .done) := by decide
theorem test_home : seen .home ready = some ([0x002], 1, some .done) := by decide
theorem test_cursorOn : seen .cursorOn ready = some ([0x00F], 7, some .done) := by decide
theorem test_cursorOff : seen .cursorOff ready = some ([0x00C], 7, some .done) := by decide
theorem test_showCursor : seen .showCursor ready = some ([0x00F], 7, some .done) := by decide
theorem test_hideCursor : seen .hideCursor ready = some ([0x00C], 7, some .done) := by decide
theorem test_blinkOn : seen .blinkOn ready = some ([0x00F], 7, some .done) := by decide
theorem test_blinkOff : seen .blinkOff ready = some ([0x00C], 7, some .done) := by decide
theorem test_scrollLeft : seen .scrollLeft ready = some ([0x018], 7, some .done) := by decide
theorem test_scrollRight : seen .scrollRight ready = some ([0x01C], 7, some .done) := by decide

/-- V4 to V14 as FRAME9 rows -/
theorem test_frame_rows :
    [Instr.frameClearDisplay, .frameMoveHome, .frameEntryMode, .frameTurnOff, .frameBlinkOff,
        .frameBlinkOn, .frameMoveLeft, .frameMoveRight, .frameScrollLeft, .frameScrollRight,
        .frameFont5x7, .frameData 0x41].map (fun i => seen i ready)
      = [0x001, 0x002, 0x006, 0x008, 0x00C, 0x00F, 0x010, 0x014, 0x018, 0x01C, 0x038, 0x141].map
        (fun w => some ([w], 7, some .done)) := by decide

set_option maxRecDepth 4000 in
/-- P1: the constructed LCD, its frames and counter -/
theorem test_lcdInit_Hi :
    (nextOf (exec (.lcdInit tenPins (some [72, 105])) bare)).map
        (fun t => (frameSequence bare.lines t.trace, t.cursorPosition, t.lcdPins, t.trace.length))
      = some ([0x038, 0x00F, 0x006, 0x001, 0x148, 0x169], 3, tenPins, 82) := by decide

/-- V92: the fourth pin is rejected -/
theorem test_lcdInit_rejected_pin :
    nextOf (exec (.lcdInit tenPins none) { bare with cfg := { pinAnswers := [((.output, 3), false)] } })
      = some { bare with
        cfg := { pinAnswers := [((.output, 3), false)] }
        trace := [.cfg .output 0 none, .cfg .output 1 none, .cfg .output 2 none]
        replies := [.failed (.configFault .lcd (.pin 3))] } := by decide

/-- V85: TEARDOWN presented by the host -/
theorem test_teardown_refused :
    refusalOf (exec .teardown ready) = some .teardownNotIssuable := by decide

/-- S12: inside a QUIT -/
theorem test_teardown_frames :
    seen .teardown { ready with inQuit := true } = some ([0x001, 0x008], 1, none) := by decide

/-! ## Button -/

/-- V21: the line high at construction -/
theorem test_btnInit_high :
    nextOf (exec (.btnInit 0 20 true none) { bare with levels := [some true] })
      = some { bare with
        btns := [{ present := true, pin := 20, pressed := true, cb := true, repeatInterval := 100 }]
        registry := [.btn 0]
        trace := [.cfg .input 20 (some .noPull), .get 0 (some true)]
        replies := [.done] } := by decide

/-- V27: the initial read fails -/
theorem test_btnInit_failing_read :
    nextOf (exec (.btnInit 0 20 true none) { bare with levels := [none] })
      = some { bare with
        trace := [.cfg .input 20 (some .noPull), .get 0 none]
        replies := [.failed (.pollFault (.btn 0))] } := by decide

/-- V20 poll 2: the window opens with the latch set -/
theorem test_btnPoll_window :
    nextOf (exec (.btnPoll 0) (withBtn false true [some true]))
      = some { inWindow (withBtn true true []) with
        trace := [.get 0 (some true), .cb (.btn 0)] } := by decide

/-- V20 poll 5: a low reading clears the latch and waits -/
theorem test_btnPoll_low :
    nextOf (exec (.btnPoll 0) (withBtn true true [some false]))
      = some { withBtn false true [] with
        trace := [.get 0 (some false), .holdAtLeast 100], replies := [.done] } := by decide

/-! ## Potentiometer -/

/-- V60: the last sample of a level and the first of the next, the middle, the ends -/
theorem test_potQ_16_bits :
    [0, 327, 328, 983, 984, 12345, 32439, 32440, 32768, 33095, 33096, 40000, 65207, 65208,
        65535].map (potQ {})
      = [0, 0, 1, 1, 2, 19, 49, 50, 50, 50, 51, 61, 99, 100, 100] := by decide

/-- V61 -/
theorem test_potQ_other_widths :
    [0, 1, 2, 127, 128, 254, 255].map (potQ { adcBits := 8 }) = [0, 0, 1, 50, 50, 100, 100]
      ∧ [5, 6, 511, 512, 1018].map (potQ { adcBits := 10 }) = [0, 1, 50, 50, 100]
      ∧ [20, 21, 2047, 2048, 4075].map (potQ { adcBits := 12 }) = [0, 1, 50, 50, 100] := by decide

/-- V70: POT_INIT under the default mode -/
theorem test_potInit_sample :
    nextOf (exec (.potInit 0 30 true) { bare with samples := [some 32768] })
      = some { withPot (some 50) true [] with
        trace := [.cfg .analog 30 none, .adc 0 (some 32768)], replies := [.done] } := by decide

/-- V72: POT_INIT under the other mode -/
theorem test_potInit_none :
    nextOf (exec (.potInit 0 30 true)
        { bare with cfg := { potInitMode := .noValue }, samples := [some 1] })
      = some { withPot none true [some 1] with
        cfg := { potInitMode := .noValue }
        trace := [.cfg .analog 30 none], replies := [.done] } := by decide

/-- V62 -/
theorem test_potValue :
    nextOf (exec (.potValue 0) (withPot (some 50) true [some 40000]))
      = some { withPot (some 50) true [] with
        trace := [.adc 0 (some 40000)], replies := [.value 61] } := by decide

/-- V71: the window opens with the old value still stored -/
theorem test_potPoll_window :
    nextOf (exec (.potPoll 0) (withPot (some 50) true [some 33096]))
      = some { withPot (some 50) true [] with
        cbDepth := 1, paused := some (.potPoll 0 51)
        trace := [.adc 0 (some 33096), .cb (.pot 0)] } := by decide

/-- V73: no callback -/
theorem test_potPoll_no_callback :
    nextOf (exec (.potPoll 0) (withPot (some 50) false [some 0]))
      = some { withPot (some 0) false [] with
        trace := [.adc 0 (some 0)], replies := [.done] } := by decide

/-! ## Sequencer, windows -/

/-- V81: RUN after QUIT -/
theorem test_run_after_quit :
    nextOf (exec .run { withBtn false true [] with running := false })
      = some { withBtn false true [] with running := false, replies := [.done] } := by decide

/-- spec/46_sequencer.md R261: RUN begins at index 0 -/
theorem test_run_begins :
    nextOf (exec .run (withBtn false true [])) = some (inRun (withBtn false true [])) := by decide

/-- V80 -/
theorem test_quit_with_lcd :
    (nextOf (exec .quit ready)).map
        (fun t => (frameSequence ready.lines t.trace, t.cursorPosition, t.running, t.lines))
      = some ([0x001, 0x008], 1, false, { d3 := true }) := by decide

/-- V83 -/
theorem test_quit_without_lcd :
    nextOf (exec .quit bare) = some { bare with running := false, replies := [.done] } := by decide

/-- V71: the return of the callback stores the poll's own value -/
theorem test_step_callback_return :
    nextOf (step { withPot (some 50) true [] with
        cbDepth := 1, paused := some (.potPoll 0 51), pending := [.callbackReturn] })
      = some { withPot (some 51) true [] with
        trace := [.cbDone (.pot 0)], replies := [.done] } := by decide

/-- V84: a failing sample in RUN is skipped -/
theorem test_step_poll_fault_in_run :
    nextOf (step { inRun (withPot (some 50) true [none]) with registry := [.pot 0, .btn 0] })
      = some { inRun (withPot (some 50) true []) with
        registry := [.pot 0, .btn 0], passIdx := 1, trace := [.adc 0 none] } := by decide

/-- spec/20_memory.md R89: constructions inside a QUIT -/
theorem test_construction_in_quit_refused :
    [Instr.lcdInit tenPins none, .btnInit 0 20 true none, .potInit 0 30 true].map
        (fun i => refusalOf (exec i { bare with inQuit := true }))
      = List.replicate 3 (some .insideQuit) := by decide

/-- V90: p0 is D7, p7 is D0, p8 is E, p9 is RS -/
theorem test_lcdInit_lines :
    ready.pinOf .d7 = some 0 ∧ ready.pinOf .d0 = some 7 ∧ ready.pinOf .e = some 8
      ∧ ready.pinOf .rs = some 9 ∧ bare.pinOf .d7 = none := by decide

/-- spec/20_memory.md R83: a capability that accepts listed pins only, and one that rejects them -/
theorem test_pinOk :
    Config.pinOk { pinAnswers := [((.input, 1), true)], otherPins := .rejected } .input 1 = true
      ∧ Config.pinOk { pinAnswers := [((.input, 1), true)], otherPins := .rejected } .input 2 = false
      ∧ Config.pinOk { pinAnswers := [((.input, 1), false)] } .input 1 = false
      ∧ Config.pinOk { pinAnswers := [((.input, 1), false)] } .output 1 = true := by decide

/-- V85: admission inside a window -/
theorem test_window_admission :
    refusalOf (exec .run (inWindow ready)) = some .insideWindow
      ∧ refusalOf (exec (.btnPoll 0) (inWindow ready)) = some .insideWindow
      ∧ seen (.write [120]) (inWindow ready) = some ([0x178], 8, some .done) := by decide

/-- V16 -/
theorem test_refused_without_lcd :
    refusalOf (exec (.sendCommand 0x01) bare) = some .lcdAbsent
      ∧ refusalOf (exec (.sendData 256) ready) = some (.byteOutOfType 256) := by decide

/-- spec/10_state.md R66: a block reset in the middle of a run -/
theorem test_step_block_reset :
    nextOf (step { inRun (withBtn true true []) with
        lines := { d3 := true }, pending := [.blockReset] }) = some bare := by decide

/-! ## Table words placed after reset -/

theorem test_placed_quit :
    (nextOf (step (State.reset.withFetchWord 8 0x19))).map State.running = some false := by decide
theorem test_placed_lcdInit :
    (nextOf (step (State.reset.withFetchWord 8 0x00))).map State.lcdPresent = some true := by decide
theorem test_placed_frame :
    (nextOf (step (ready.withFetchWord 16 0x138))).map (fun t => frameSequence ready.lines t.trace)
      = some [0x138] := by decide

/-! ## Witnesses: for each statement with hypotheses, a state and operands that meet them all -/

/-- An outcome that is a next state with a property. -/
theorem next_with (r : Result) (p : State → Prop) [DecidablePred p]
    (h : (nextOf r).any (fun t => p t) = true) : ∃ t, r = .next t ∧ p t := by
  cases r <;> simp_all [nextOf]

theorem witness_EncodeOfDecodeIsTheWord : decode (.op 0x08 []) = .ok .clear := by decide

theorem witness_UnassignedSelectorsAreRefused :
    (0x1B ≤ (0x1B : BitVec 8).toNat ∧ (hostSends bare 0x1B []).hostHasControl = true
        ∧ (hostSends bare 0x1B []).pending = .word (.op 0x1B []) :: [])
      ∧ 0x1B ≤ (0xFF : BitVec 8).toNat
        ∧ (hostSends (inWindow bare) 0xFF [.byte 1]).hostHasControl = true
        ∧ (hostSends (inWindow bare) 0xFF [.byte 1]).pending = .word (.op 0xFF [.byte 1]) :: [] := by
  decide

theorem witness_FrameWordsDecodeByRegisterSelect :
    ∀ w ∈ [(0x000 : BitVec 9), 0x003, 0x0FF], w.toNat < 0x100 ∧
      w.toNat ∉ [0x01, 0x02, 0x06, 0x08, 0x0C, 0x0F, 0x10, 0x14, 0x18, 0x1C, 0x38] := by decide

theorem witness_StepPerformsThePresentedOperation :
    (hostSends ready 0x08 []).hostHasControl = true
      ∧ (hostSends ready 0x08 []).pending = .word (.op 0x08 []) :: []
      ∧ decode (.op 0x08 []) = .ok .clear := by decide

theorem witness_StepPollsTheDeviceAtPassIndex :
    ((inRun (withBtn false true [some true])).sequencing
        ∧ (inRun (withBtn false true [some true])).registry[0]? = some (.btn 0))
      ∧ (inRun (withPot none true [some 0])).sequencing
        ∧ (inRun (withPot none true [some 0])).registry[0]? = some (.pot 0) := by
  unfold State.sequencing
  decide

theorem witness_BlockWaitsWithNothingToDo :
    (bare.hostHasControl = true ∧ bare.pending = [])
      ∧ (inRun bare).sequencing ∧ (inRun bare).registry = [] ∧ (inRun bare).passIdx = 0
        ∧ (inRun bare).running = true := by
  unfold State.sequencing
  decide

theorem witness_BlockResetRestoresEveryElement :
    ({ inRun ready with pending := [.blockReset] } : State).pending = .blockReset :: [] := by decide

/-- For DataFrameRowSendsItsByte, ClearAndHomeResetTheCounter,
MoveCursorSendsOneFrameACell and ReadCursorReportsTheCounter. -/
theorem witness_LcdOperations :
    (ready.hostHasControl = true ∧ ready.lcdPresent = true)
      ∧ ((inWindow (inRun ready)).hostHasControl = true
        ∧ (inWindow (inRun ready)).lcdPresent = true)
      ∧ bare.hostHasControl = true ∧ bare.lcdPresent = false := by decide

/-- Both ends of the byte. -/
theorem witness_DataLinesCarryTheShiftedBits :
    (∃ t, exec (.sendCommand 0x81) ready = .next t
        ∧ t.lines.dataLevels = [true, false, false, false, false, false, false, true])
      ∧ ∃ t, exec (.sendData 0) ready = .next t ∧ t.lines.dataLevels = List.replicate 8 false :=
  ⟨next_with _ _ (by decide), next_with _ _ (by decide)⟩

theorem witness_SendCommandSendsOneCommandFrame :
    (∀ b ∈ [(0 : Int), 255], 0 ≤ b ∧ b ≤ 255) ∧ ready.hostHasControl = true
      ∧ ready.lcdPresent = true ∧ bare.hostHasControl = true ∧ bare.lcdPresent = false := by decide

theorem witness_SendDataSendsOneDataFrame :
    (∀ b ∈ [(0 : Int), 255], 0 ≤ b ∧ b ≤ 255) ∧ ready.hostHasControl = true
      ∧ ready.lcdPresent = true ∧ bare.hostHasControl = true ∧ bare.lcdPresent = false := by decide

theorem witness_SingleOpcodeOperationsSendTheirByte :
    ((Instr.cursorOn, (0x0A : BitVec 8), (0x0F : Byte)) ∈ [(Instr.lcdOn, (0x06 : BitVec 8),
        (0x0F : Byte)), (.lcdOff, 0x07, 0x08), (.cursorOn, 0x0A, 0x0F), (.cursorOff, 0x0B, 0x0C),
        (.showCursor, 0x0C, 0x0F), (.hideCursor, 0x0D, 0x0C), (.blinkOn, 0x0E, 0x0F), (.blinkOff, 0x0F, 0x0C),
        (.scrollLeft, 0x10, 0x18), (.scrollRight, 0x11, 0x1C)])
      ∧ ready.hostHasControl = true ∧ ready.lcdPresent = true := by decide

theorem witness_CommandFrameRowsSendTheirByte :
    ((Instr.frameFont5x7, (0x38 : Byte)) ∈ [(Instr.frameClearDisplay, (0x01 : Byte)),
        (.frameMoveHome, 0x02), (.frameEntryMode, 0x06), (.frameTurnOff, 0x08),
        (.frameBlinkOff, 0x0C), (.frameBlinkOn, 0x0F), (.frameMoveLeft, 0x10),
        (.frameMoveRight, 0x14), (.frameScrollLeft, 0x18), (.frameScrollRight, 0x1C),
        (.frameFont5x7, 0x38)])
      ∧ ready.hostHasControl = true ∧ ready.lcdPresent = true
      ∧ bare.hostHasControl = true ∧ bare.lcdPresent = false := by decide

theorem witness_WriteSendsEveryCharacterAndCounts :
    (∀ text ∈ [[], [0, 255]], ∀ c ∈ text, c ≤ 255) ∧ ready.hostHasControl = true
      ∧ ready.lcdPresent = true := by decide

/-- Both modes, the counter below the end of the row and beyond it. -/
theorem witness_NewLineMovesToTheEndOfTheRow :
    ∀ s ∈ [{ ready with cursorPosition := 40 }, { ready with cursorPosition := 41 },
        { ready with cfg := { newlineCpMode := .advance }, cursorPosition := 40 },
        { ready with cfg := { newlineCpMode := .advance }, cursorPosition := 41 }],
      s.hostHasControl = true ∧ s.lcdPresent = true := by decide

theorem witness_OnlyListedOperationsWriteTheCounter :
    ∃ t, exec .clear ready = .next t ∧ t.cursorPosition ≠ ready.cursorPosition :=
  next_with _ _ (by decide)

theorem witness_LcdInitConstructsTheLcd :
    bare.constructible ∧ bare.lcdPresent = false ∧ tenPins.length = 10
      ∧ (∀ c ∈ (some [0, 255]).getD [], c ≤ 255)
      ∧ (∀ p ∈ tenPins, bare.cfg.pinOk .output p = true)
      ∧ lineOrder[0]? = some .d7 ∧ tenPins[0]? = some 0 ∧ lineOrder[9]? = some .rs
      ∧ tenPins[9]? = some 9 := by
  unfold State.constructible State.hostIdle
  decide

theorem witness_LcdInitFrameSequence :
    bare.constructible ∧ bare.lcdPresent = false ∧ tenPins.length = 10
      ∧ (∀ c ∈ (none : Option (List Nat)).getD [], c ≤ 255)
      ∧ (∀ p ∈ tenPins, bare.cfg.pinOk .output p = true) ∧ bare.lines.e = false := by
  unfold State.constructible State.hostIdle
  decide

/-- Nine pins; the first pin rejected; the last one rejected. -/
theorem witness_LcdInitConfigFaultHasNoPartialEffect :
    bare.constructible ∧ bare.lcdPresent = false
      ∧ (∀ c ∈ (none : Option (List Nat)).getD [], c ≤ 255)
      ∧ [0, 1, 2, 3, 4, 5, 6, 7, 8].length ≠ 10
      ∧ tenPins = [] ++ 0 :: [1, 2, 3, 4, 5, 6, 7, 8, 9]
      ∧ Config.pinOk { pinAnswers := [((.output, 0), false)] } .output 0 = false
      ∧ tenPins = [0, 1, 2, 3, 4, 5, 6, 7, 8] ++ 9 :: []
      ∧ (∀ q ∈ [0, 1, 2, 3, 4, 5, 6, 7, 8],
        Config.pinOk { pinAnswers := [((.output, 9), false)] } .output q = true)
      ∧ Config.pinOk { pinAnswers := [((.output, 9), false)] } .output 9 = false := by
  unfold State.constructible State.hostIdle
  decide

theorem witness_TeardownClearsThenTurnsOff :
    ({ ready with inQuit := true } : State).inQuit = true ∧ ready.inQuit = false := by decide

/-- The first and the last position; the LCD constructed, and an operation after it. -/
theorem witness_LcdPinsAreRecordedAndFixed :
    (∃ t, exec (.lcdInit tenPins none) bare = .next t ∧ t.lcdPresent = true
        ∧ t.pinOf .d7 = some 0 ∧ t.pinOf .rs = some 9)
      ∧ lineOrder[0]? = some .d7 ∧ lineOrder[9]? = some .rs
      ∧ tenPins[0]? = some 0 ∧ tenPins[9]? = some 9
      ∧ ready.lcdPresent = true ∧ ∃ t, exec .quit ready = .next t ∧ t.lcdPins = ready.lcdPins :=
  ⟨next_with _ _ (by decide), by decide, by decide, by decide, by decide, rfl,
    next_with _ _ (by decide)⟩

theorem witness_LcdStaysAsConstructed :
    ready.lcdPresent = true ∧ ∃ t, exec .quit ready = .next t ∧ t.running = false :=
  ⟨rfl, next_with _ _ (by decide)⟩

/-- The default interval and an interval of 0. -/
theorem witness_BtnInitConstructsTheButton :
    (∀ s ∈ [{ bare with levels := [some true] }, { bare with levels := [some false] }],
        s.constructible ∧ s.btns[0]? = some newBtn ∧ s.cfg.pinOk .input 20 = true
          ∧ (s.levelAnswer 0).isSome = true)
      ∧ newBtn.present = false ∧ 0 ≤ (none : Option Duration).getD 100
      ∧ 0 ≤ (some (0 : Duration)).getD 100 := by
  unfold State.constructible State.hostIdle
  decide

theorem witness_DeviceInitFaultHasNoPartialEffect_button :
    ({ bare with cfg := { pinAnswers := [((.input, 20), false)] } } : State).constructible
      ∧ Config.pinOk { pinAnswers := [((.input, 20), false)] } .input 20 = false
      ∧ ({ bare with levels := [none] } : State).constructible
      ∧ ({ bare with levels := [none] } : State).levelAnswer 0 = none
      ∧ bare.cfg.pinOk .input 20 = true
      ∧ bare.btns[0]? = some newBtn ∧ newBtn.present = false
      ∧ 0 ≤ (none : Option Duration).getD 100 := by
  unfold State.constructible State.hostIdle
  decide

/-- Issued by the host and performed by RUN; the four clauses. -/
theorem witness_BtnPollFollowsTheTransitionTable :
    (∀ s ∈ [withBtn false true [some true], inRun (withBtn true true [some true]),
        withBtn false false [some true], withBtn true true [some false], withBtn true true [none]],
        s.pollable (.btn 0) ∧ s.btns.any Btn.present = true)
      ∧ (withBtn false true [some true]).levelAnswer 0 = some true
      ∧ (withBtn true true [some false]).levelAnswer 0 = some false
      ∧ (withBtn true true [none]).levelAnswer 0 = none := by
  unfold State.pollable
  decide

theorem witness_ButtonFiresOncePerRisingEdge :
    (withBtn true true []).hostIdle ∧ (withBtn true true []).paused = none
      ∧ (withBtn true true []).btns[0]?
        = some { present := true, pin := 20, pressed := true, cb := true } := by
  unfold State.hostIdle
  decide

theorem witness_OnlyItsOwnOperationsWriteAButton :
    ∃ t, exec (.btnPoll 0) (withBtn true true [some false]) = .next t
      ∧ t.btns[0]? ≠ (withBtn true true [some false]).btns[0]? := next_with _ _ (by decide)

/-- The narrowest sample, at both ends, for the first and the last threshold. -/
theorem witness_PotValueCrossesAtTheThresholds :
    (1 ≤ ({ adcBits := 1 } : Config).adcBits ∧ 0 ≤ 2 ^ 1 - 1 ∧ 1 ≤ 2 ^ 1 - 1)
      ∧ ∀ k ∈ [1, 100], 1 ≤ k ∧ k ≤ 100 := by decide

/-- The narrowest width, with an integer other than the value. -/
theorem witness_PotValueHasNoTies :
    1 ≤ ({ adcBits := 1 } : Config).adcBits ∧ (0 : Int) ≠ potQ { adcBits := 1 } 1 := by decide

theorem witness_PotInitConstructsThePotentiometer :
    (∀ s ∈ [{ bare with samples := [some 65535] },
        { bare with cfg := { potInitMode := .noValue } }],
        s.constructible ∧ s.pots[0]? = some newPot ∧ s.cfg.pinOk .analog 30 = true)
      ∧ newPot.present = false ∧ bare.cfg.potInitMode = .sample
      ∧ ({ bare with samples := [some 65535] } : State).sampleAnswer 0 = some 65535 := by
  unfold State.constructible State.hostIdle
  decide

theorem witness_DeviceInitFaultHasNoPartialEffect_potentiometer :
    ({ bare with cfg := { pinAnswers := [((.analog, 30), false)] } } : State).constructible
      ∧ Config.pinOk { pinAnswers := [((.analog, 30), false)] } .analog 30 = false
      ∧ ({ bare with samples := [none] } : State).constructible
      ∧ ({ bare with samples := [none] } : State).sampleAnswer 0 = none
      ∧ bare.cfg.pinOk .analog 30 = true ∧ bare.cfg.potInitMode = .sample
      ∧ bare.pots[0]? = some newPot ∧ newPot.present = false := by
  unfold State.constructible State.hostIdle
  decide

/-- At host idle and in a window; a sample at full scale and one above it, which is a failing read. -/
theorem witness_PotValueReportsAFreshSample :
    (∀ s ∈ [withPot none true [some 65535], inWindow (inRun (withPot none true [some 65536]))],
        s.hostHasControl = true ∧ s.pots[0]? = some { present := true, pin := 30, cb := true })
      ∧ (withPot none true [some 65535]).sampleAnswer 0 = some 65535
      ∧ (withPot none true [some 65536]).sampleAnswer 0 = none := by decide

theorem witness_PotPollDetectsChanges :
    (∀ s ∈ [withPot none true [some 0], inRun (withPot (some 0) true [some 0]),
        withPot (some 1) false [some 0]],
        s.pollable (.pot 0) ∧ s.pots.any Pot.present = true ∧ s.sampleAnswer 0 = some 0)
      ∧ potQ {} 0 = 0 := by
  unfold State.pollable
  decide

theorem witness_PotentiometerFiresOncePerChange :
    (withPot none true []).hostIdle ∧ (withPot none true []).paused = none
      ∧ (withPot none true []).pots[0]? = some { present := true, pin := 30, cb := true }
      ∧ ∀ raw ∈ [0, 65535], raw ≤ fullScale (withPot none true []).cfg := by
  unfold State.hostIdle
  decide

theorem witness_OnlyItsOwnOperationsWriteAPotentiometer :
    ∃ t, exec (.potPoll 0) (withPot (some 1) false [some 0]) = .next t
      ∧ t.pots[0]? ≠ (withPot (some 1) false [some 0]).pots[0]? := next_with _ _ (by decide)

theorem witness_CallbackReturnResumesThePoll :
    let s : State := { inWindow (withBtn true true []) with pending := [.callbackReturn] }
    let t : State := { s with paused := some (.potPoll 0 51) }
    (s.cbDepth = 1 ∧ s.pending = .callbackReturn :: [] ∧ s.paused = some (.btnPoll 0))
      ∧ t.cbDepth = 1 ∧ t.pending = .callbackReturn :: [] ∧ t.paused = some (.potPoll 0 51) := by
  decide

theorem witness_FailingPollChangesNothing_direct :
    ((withBtn true true [none]).hostIdle ∧ (withBtn true true [none]).levelAnswer 0 = none
        ∧ (withBtn true true [none]).btns.any Btn.present = true)
      ∧ (withPot none true [none]).hostIdle ∧ (withPot none true [none]).sampleAnswer 0 = none
        ∧ (withPot none true [none]).pots.any Pot.present = true := by
  unfold State.hostIdle
  decide

theorem witness_FailingPollChangesNothing_inRun :
    ((inRun (withBtn true true [none])).sequencing
        ∧ (inRun (withBtn true true [none])).registry[0]? = some (.btn 0)
        ∧ (inRun (withBtn true true [none])).levelAnswer 0 = none)
      ∧ (inRun (withPot none true [none])).sequencing
        ∧ (inRun (withPot none true [none])).registry[0]? = some (.pot 0)
        ∧ (inRun (withPot none true [none])).sampleAnswer 0 = none := by
  unfold State.sequencing
  decide

theorem witness_FailingCallbackStopsTheMachine :
    let s : State := { inWindow (withBtn true true []) with pending := [.callbackFail] }
    s.cbDepth ≠ 0 ∧ s.paused = some (.btnPoll 0) ∧ s.pending = .callbackFail :: [] := by decide

theorem witness_RunBeginsOrReturnsAtOnce :
    bare.hostIdle ∧ bare.running = true ∧ ({ bare with running := false } : State).hostIdle := by
  unfold State.hostIdle
  decide

/-- A poll that ends, and one that opens a window. -/
theorem witness_PassesPollInRegistrationOrder :
    (inRun (withBtn true true [some true])).sequencing
      ∧ (∃ t, step (inRun (withBtn true true [some true])) = .next t
        ∧ t.seqActive = true ∧ t.cbDepth = 0)
      ∧ ∃ t, step (inRun (withBtn false true [some true])) = .next t
        ∧ t.seqActive = true ∧ t.cbDepth = 1 :=
  ⟨by unfold State.sequencing; decide, next_with _ _ (by decide), next_with _ _ (by decide)⟩

theorem witness_RunReturnsOnlyAtAPassBoundary :
    let s : State := { inRun (withBtn true true [some true]) with running := false }
    s.seqActive = true ∧ s.pending.head? ≠ some .blockReset
      ∧ ∃ t, step s = .next t ∧ t.seqActive = false :=
  ⟨rfl, by decide, next_with _ _ (by decide)⟩

theorem witness_QuitRunsTheShutdownActions :
    (ready.hostHasControl = true ∧ ready.shutdownActions = [.teardown])
      ∧ bare.hostHasControl = true ∧ bare.shutdownActions = [] := by decide

theorem witness_OnlyQuitWritesRunning :
    (hostSends bare 0x19 []).pending.head? ≠ some .blockReset
      ∧ ∃ t, step (hostSends bare 0x19 []) = .next t
        ∧ t.running ≠ (hostSends bare 0x19 []).running :=
  ⟨by decide, next_with _ _ (by decide)⟩

theorem witness_RegistryOnlyGrowsByConstruction :
    let s := hostSends { bare with levels := [some true] } 0x13
      [.index 0, .pin 20, .callback true, .absent]
    s.pending.head? ≠ some .blockReset
      ∧ ∃ t, step s = .next t ∧ t.registry = s.registry ++ [.btn 0]
        ∧ s.devicePresent (.btn 0) = false :=
  ⟨by decide, next_with _ _ (by decide)⟩

/-- QUIT with an action registered, a poll of RUN, a construction. -/
theorem witness_RegistriesAreAppendOnly :
    let s := hostSends { bare with levels := [some true] } 0x13
      [.index 0, .pin 20, .callback true, .absent]
    (∃ t, exec .quit ready = .next t ∧ t.shutdownActions = [.teardown])
      ∧ ((inRun (withBtn true true [some true])).seqActive = true
        ∧ ∃ t, exec (.btnPoll 0) (inRun (withBtn true true [some true])) = .next t
          ∧ t.registry = [.btn 0])
      ∧ s.pending.head? ≠ some .blockReset ∧ s.devicePresent (.btn 0) = false
      ∧ ∃ t, step s = .next t ∧ t.devicePresent (.btn 0) = true ∧ t.registry = [.btn 0] :=
  ⟨next_with _ _ (by decide), ⟨rfl, next_with _ _ (by decide)⟩, by decide, by decide,
    next_with _ _ (by decide)⟩

theorem witness_WindowRefusesPollsAndConstructions :
    (inWindow ready).cbDepth ≠ 0
      ∧ Instr.btnInit 0 20 true none ∈ [Instr.run, .btnPoll 0, .potPoll 0, .lcdInit tenPins none,
        .btnInit 0 20 true none, .potInit 0 20 true] := by decide

theorem witness_LcdOperationsNeedTheLcd :
    bare.hostHasControl = true ∧ bare.lcdPresent = false ∧ (∀ b ∈ [(0 : Int), 255], 0 ≤ b ∧ b ≤ 255)
      ∧ ∀ c ∈ [0, 255], c ≤ 255 := by decide

theorem witness_OperandsOutsideTheirTypeAreRefused :
    (∀ b ∈ [(-1 : Int), 256], b < 0 ∨ 255 < b) ∧ 256 ∈ [65, 256] ∧ 255 < 256 ∧ bare.constructible
      ∧ bare.lcdPresent = false ∧ bare.btns[0]? = some newBtn ∧ newBtn.present = false
      ∧ (-1 : Duration) < 0 := by
  unfold State.constructible State.hostIdle
  decide

theorem witness_LifecycleRefusals :
    (({ ready with inQuit := true } : State).hostIdle
        ∧ Instr.lcdInit [] none ∈ [Instr.lcdInit [] none, .btnInit 0 0 true none, .potInit 0 0 true])
      ∧ (ready.hostIdle ∧ ready.inQuit = false ∧ ready.lcdPresent = true)
      ∧ ((withBtn true true []).hostIdle ∧ (withBtn true true []).btns.any Btn.present = true)
      ∧ ((withPot none true []).hostIdle ∧ (withPot none true []).pots.any Pot.present = true)
      ∧ bare.hostIdle ∧ bare.btns[0]? = some newBtn ∧ newBtn.present = false
      ∧ bare.pots[0]? = some newPot ∧ newPot.present = false
      ∧ bare.btns.length ≤ 1 ∧ bare.pots.length ≤ 1 := by
  unfold State.hostIdle
  decide

/-- A block with its LCD constructed, about to perform CLEAR. -/
def invState : State :=
  { btns := [], pots := [], lcdPresent := true, lcdPins := tenPins, shutdownActions := [.teardown]
    pending := [.word (.op 0x08 [])] }

theorem witness_EveryStepKeepsTheInvariant :
    Inv invState ∧ ∃ t, step invState = .next t ∧ t.trace.length = 12 := by
  refine ⟨?_, next_with _ _ (by decide)⟩
  constructor <;> try (simp [invState, tenPins]; done)
  intro d
  cases d <;> simp [invState, State.devicePresent]

theorem witness_NoStepWritesAParameter :
    ∃ t, step invState = .next t ∧ t.trace.length = 12 := next_with _ _ (by decide)

theorem witness_LinesChangeOnlyThroughWholeFrames :
    invState.pending.head? ≠ some .blockReset ∧ invState.cfg.wf
      ∧ ∃ t, step invState = .next t ∧ t.lines ≠ invState.lines :=
  ⟨by decide, by decide, next_with _ _ (by decide)⟩

theorem witness_LeastDurationsOfLcdOperations :
    (∃ t, exec (.sendCommand 0) ready = .next t ∧ t.trace ≠ [])
      ∧ (∃ t, exec (.sendData 255) ready = .next t ∧ t.trace ≠ [])
      ∧ (∃ t, exec (.write [0]) ready = .next t ∧ t.trace ≠ [])
      ∧ (∃ t, exec (.moveCursor (-1)) ready = .next t ∧ t.trace ≠ [])
      ∧ (∃ t, exec .newLine { ready with cursorPosition := 40 } = .next t ∧ t.trace ≠ [])
      ∧ ∃ t, exec .quit ready = .next t ∧ t.trace ≠ [] :=
  ⟨next_with _ _ (by decide), next_with _ _ (by decide), next_with _ _ (by decide),
    next_with _ _ (by decide), next_with _ _ (by decide), next_with _ _ (by decide)⟩

end Sys2Proof.Tests
end

/-! PROOFS. The step performs the presented operation (O6), and no step writes a parameter (O58). -/

namespace Sys2Proof.Machine

/-! ## The presented operation -/

/-- A word presented to a host in control is taken off the list and performed. -/
theorem step_of_word (s : State) (w : HostWord) (rest : List HostAction)
    (control : s.hostHasControl = true) (presented : s.pending = .word w :: rest) :
    step s = performWord w { s with pending := rest } := by
  simp [step, nextStep, performPending, control, presented]

theorem performWord_of_decode (s : State) (w : HostWord) (i : Instr) (decodes : decode w = .ok i) :
    performWord w s = exec i s := by
  simp [performWord, decodes]

/-- Settles O6. -/
theorem stepPerformsThePresentedOperation : Obligations.StepPerformsThePresentedOperation := by
  intro w rest i s control presented decodes
  rw [step_of_word s w rest control presented, performWord_of_decode _ w i decodes]

/-! ## The parameters -/

/-- The parameters of R11 as one value: the configuration, `NB` and `NP` (log 7). -/
def State.parameters (s : State) : Config × Nat × Nat := (s.cfg, s.btns.length, s.pots.length)

theorem State.parameters_eq_iff (s t : State) :
    t.parameters = s.parameters ↔
      t.cfg = s.cfg ∧ t.btns.length = s.btns.length ∧ t.pots.length = s.pots.length := by
  simp [State.parameters]

/-! ### Device operations -/

@[simp] theorem State.potConstructed_parameters (s : State) (j : Nat) (pin : Pin) (cb : Bool)
    (last : Option Nat) : (s.potConstructed j pin cb last).parameters = s.parameters := by
  simp [State.parameters, State.potConstructed]

@[simp] theorem State.btnInit_parameters (s : State) (i : Nat) (pin : Pin) (cb : Bool)
    (d : Duration) : (s.btnInit i pin cb d).parameters = s.parameters := by
  rcases s.btnInit_cases i pin cb d with h | h | ⟨level, h⟩ <;> simp [h, State.parameters]

@[simp] theorem State.btnPoll_parameters (s : State) (i : Nat) (b : Btn) :
    (s.btnPoll i b).parameters = s.parameters := by
  rcases s.btnPoll_cases i b with h | ⟨-, -, h⟩ | h | h <;> simp [h, State.parameters]

@[simp] theorem State.potInit_parameters (s : State) (j : Nat) (pin : Pin) (cb : Bool) :
    (s.potInit j pin cb).parameters = s.parameters := by
  rcases s.potInit_cases j pin cb with h | h | ⟨-, h⟩ | ⟨q, -, h⟩ <;> rw [h]
  case inl | inr.inl => simp [State.parameters]
  case inr.inr.inl | inr.inr.inr =>
    rw [State.potConstructed_parameters]
    simp [State.parameters]

@[simp] theorem State.potValue_parameters (s : State) (j : Nat) :
    (s.potValue j).parameters = s.parameters := by
  obtain ⟨r, h⟩ := s.potValue_cases j
  simp [h, State.parameters]

@[simp] theorem State.potPoll_parameters (s : State) (j : Nat) (p : Pot) :
    (s.potPoll j p).parameters = s.parameters := by
  rcases s.potPoll_cases j p with h | ⟨q, -, -, -, h⟩ | ⟨q, -, h⟩ <;> simp [h, State.parameters]

/-! ### The sequencer, the callback return and the block reset -/

@[simp] theorem State.startRun_parameters (s : State) :
    s.startRun.parameters = s.parameters := by
  unfold State.startRun
  split <;> rfl

@[simp] theorem State.passBoundary_parameters (s : State) :
    s.passBoundary.parameters = s.parameters := by
  unfold State.passBoundary
  simp only
  split <;> rfl

@[simp] theorem State.closeWindow_parameters (s : State) (p : Paused) :
    (s.closeWindow p).parameters = s.parameters := by
  cases p <;> simp [State.closeWindow, State.resume, State.parameters]

@[simp] theorem State.blockReset_parameters (s : State) :
    s.blockReset.parameters = s.parameters := by
  simp [State.parameters, State.blockReset]

/-! ### Every operation and every step -/

/-- No operation writes a parameter. -/
theorem Effect.parameters_eq {s t : State} {i : Instr} (h : Effect s i t) :
    t.parameters = s.parameters := by
  cases h with
  | lcd | lcdInitFault | lcdInitDone | teardown | quit => rfl
  | btnInit | btnPoll | potInit | potValue | potPoll | run => simp

/-- No step writes a parameter, block reset included. -/
theorem step_parameters_eq (s t : State) (h : step s = .next t) :
    t.parameters = s.parameters := by
  rcases step_next_cases s t h with ⟨rest, -, rfl⟩ | ⟨-, -, rfl⟩ | ⟨-, w, rest, i, -, -, he⟩ |
    ⟨-, rest, p, -, -, rfl⟩ | ⟨-, d, -, he⟩ | ⟨-, -, rfl⟩
  · exact State.blockReset_parameters { s with pending := rest }
  · rfl
  · exact (exec_effect i _ t he).parameters_eq
  · exact State.closeWindow_parameters { s with pending := rest } p
  · exact (exec_effect _ s t he).parameters_eq
  · exact s.passBoundary_parameters

/-- Settles O58, from the effects of the operations. -/
theorem noStepWritesAParameter : Obligations.NoStepWritesAParameter := by
  intro s t h
  exact (State.parameters_eq_iff s t).1 (step_parameters_eq s t h)

end Sys2Proof.Machine

/-! PROOFS. The state: what can write each element (O22, O27, O28, O49 to O51), the invariant (O56,
O57), block reset (O9, O10), the idle block (O8) and the block without an LCD (O53). -/

namespace Sys2Proof.Machine

section

variable {s t u : State} {i : Instr} {d : Device}

/-! ## Which devices a state has -/

/-- `t` has the registry and the constructed devices of `s`. -/
structure SameDevices (s t : State) : Prop where
  registry : t.registry = s.registry
  present : ∀ d, t.devicePresent d = s.devicePresent d

/-- `t` is `s` with the absent device `d` constructed and registered at the end. -/
structure AddsDevice (s t : State) (d : Device) : Prop where
  registry : t.registry = s.registry ++ [d]
  absent : s.devicePresent d = false
  present : ∀ e, t.devicePresent e = true ↔ e = d ∨ s.devicePresent e = true

theorem SameDevices.of_eq (hr : t.registry = s.registry) (hb : t.btns = s.btns)
    (hp : t.pots = s.pots) : SameDevices s t where
  registry := hr
  present d := by cases d <;> simp [State.devicePresent, hb, hp]

theorem SameDevices.trans (h : SameDevices s u) (h' : SameDevices u t) : SameDevices s t where
  registry := h'.registry.trans h.registry
  present d := (h'.present d).trans (h.present d)

/-- A construction that begins with steps that leave the devices alone. -/
theorem SameDevices.trans_adds (h : SameDevices s u) (h' : AddsDevice u t d) :
    AddsDevice s t d where
  registry := h'.registry.trans (by rw [h.registry])
  absent := (h.present d).symm.trans h'.absent
  present e := by rw [h'.present, h.present]

theorem AddsDevice.trans_same (h : AddsDevice s u d) (h' : SameDevices u t) :
    AddsDevice s t d where
  registry := h'.registry.trans h.registry
  absent := h.absent
  present e := by rw [h'.present, h.present]

theorem SameDevices.mem_registry_iff (h : SameDevices s t)
    (hs : ∀ e, e ∈ s.registry ↔ s.devicePresent e = true) (e : Device) :
    e ∈ t.registry ↔ t.devicePresent e = true := by
  rw [h.registry, h.present, hs]

theorem AddsDevice.mem_registry_iff (h : AddsDevice s t d)
    (hs : ∀ e, e ∈ s.registry ↔ s.devicePresent e = true) (e : Device) :
    e ∈ t.registry ↔ t.devicePresent e = true := by
  rw [h.registry, h.present, List.mem_append, List.mem_singleton, hs, or_comm]

theorem AddsDevice.nodup_registry (h : AddsDevice s t d)
    (hs : ∀ e, e ∈ s.registry ↔ s.devicePresent e = true) (once : s.registry.Nodup) :
    t.registry.Nodup := by
  have hnew : d ∉ s.registry := by simp [hs, h.absent]
  rw [h.registry, ← List.concat_eq_append]
  exact once.concat hnew

/-! ### Updates of one device -/

theorem State.devicePresent_of_btn {k : Nat} {b : Btn} (h : s.btns[k]? = some b) :
    s.devicePresent (.btn k) = b.present := by
  simp [State.devicePresent, h]

theorem State.devicePresent_of_pot {j : Nat} {p : Pot} (h : s.pots[j]? = some p) :
    s.devicePresent (.pot j) = p.present := by
  simp [State.devicePresent, h]

theorem State.devicePresent_putBtn {k : Nat} {b₀ : Btn} (h : s.btns[k]? = some b₀) (b : Btn)
    (e : Device) :
    (s.putBtn k b).devicePresent e = if e = .btn k then b.present else s.devicePresent e := by
  have hlt := (List.getElem?_eq_some_iff.1 h).1
  cases e with
  | btn m => by_cases hm : k = m <;> simp_all [State.devicePresent, eq_comm]
  | pot m => simp [State.devicePresent]

theorem State.devicePresent_putPot {j : Nat} {p₀ : Pot} (h : s.pots[j]? = some p₀) (p : Pot)
    (e : Device) :
    (s.putPot j p).devicePresent e = if e = .pot j then p.present else s.devicePresent e := by
  have hlt := (List.getElem?_eq_some_iff.1 h).1
  cases e with
  | btn m => simp [State.devicePresent]
  | pot m => by_cases hm : j = m <;> simp_all [State.devicePresent, eq_comm]

theorem SameDevices.lineGet (s : State) (k : Nat) : SameDevices s (s.lineGet k) :=
  .of_eq (by simp) (by simp) (by simp)

theorem SameDevices.adcRead (s : State) (j : Nat) : SameDevices s (s.adcRead j) :=
  .of_eq (by simp) (by simp) (by simp)

theorem SameDevices.holdButton (s : State) (d : Duration) : SameDevices s (s.holdButton d) :=
  .of_eq rfl rfl rfl

theorem SameDevices.finishPoll (s : State) : SameDevices s s.finishPoll :=
  .of_eq (by simp) (by simp) (by simp)

theorem SameDevices.pollFault (s : State) (d : Device) : SameDevices s (s.pollFault d) :=
  .of_eq (by simp) (by simp) (by simp)

/-- A present button written back as present. -/
theorem SameDevices.putBtn {k : Nat} {b₀ b : Btn} (h : s.btns[k]? = some b₀)
    (hb : b.present = b₀.present) : SameDevices s (s.putBtn k b) where
  registry := rfl
  present e := by
    rw [State.devicePresent_putBtn h, hb]
    split
    case isTrue he => rw [he, State.devicePresent_of_btn h]
    case isFalse => rfl

theorem SameDevices.storeLast (s : State) (j q : Nat) : SameDevices s (s.storeLast j q) where
  registry := rfl
  present e := by
    cases e with
    | btn m => rfl
    | pot m =>
      by_cases hm : j = m <;> simp [State.devicePresent, hm, Function.comp_def]

theorem AddsDevice.putBtn {k : Nat} {b₀ b : Btn} (h : s.btns[k]? = some b₀)
    (absent : b₀.present = false) (present : b.present = true) :
    AddsDevice s ((s.putBtn k b).register (.btn k)) (.btn k) where
  registry := rfl
  absent := (State.devicePresent_of_btn h).trans absent
  present e := by
    have he : ((s.putBtn k b).register (.btn k)).devicePresent e = _ :=
      State.devicePresent_putBtn h b e
    rw [he, present]
    split <;> simp_all

theorem AddsDevice.putPot {j : Nat} {p₀ p : Pot} (h : s.pots[j]? = some p₀)
    (absent : p₀.present = false) (present : p.present = true) :
    AddsDevice s ((s.putPot j p).register (.pot j)) (.pot j) where
  registry := rfl
  absent := (State.devicePresent_of_pot h).trans absent
  present e := by
    have he : ((s.putPot j p).register (.pot j)).devicePresent e = _ :=
      State.devicePresent_putPot h p e
    rw [he, present]
    split <;> simp_all

theorem AddsDevice.potConstructed {j : Nat} {p₀ : Pot} (h : s.pots[j]? = some p₀)
    (absent : p₀.present = false) (pin : Pin) (cb : Bool) (last : Option Nat) :
    AddsDevice s (s.potConstructed j pin cb last) (.pot j) :=
  (AddsDevice.putPot (p := { present := true, pin := pin, lastValue := last, cb := cb }) h absent
    rfl).trans_same (.of_eq rfl rfl rfl)

/-! ### The devices after each operation -/

theorem State.btnInit_devices {k : Nat} {b₀ : Btn} (h : s.btns[k]? = some b₀)
    (absent : b₀.present = false) (pin : Pin) (cb : Bool) (interval : Duration) :
    SameDevices s (s.btnInit k pin cb interval)
      ∨ AddsDevice s (s.btnInit k pin cb interval) (.btn k) := by
  have hcfg : SameDevices s (s.configured .input pin (some (s.cfg.pullOf k))) := .of_eq rfl rfl rfl
  have hread := hcfg.trans (.lineGet _ k)
  rcases s.btnInit_cases k pin cb interval with e | e | ⟨level, e⟩ <;> rw [e]
  · exact .inl (.of_eq rfl rfl rfl)
  · exact .inl (hread.trans (.of_eq rfl rfl rfl))
  · exact .inr (hread.trans_adds ((AddsDevice.putBtn (by simpa using h) absent rfl).trans_same
      (.of_eq rfl rfl rfl)))

theorem State.potInit_devices {j : Nat} {p₀ : Pot} (h : s.pots[j]? = some p₀)
    (absent : p₀.present = false) (pin : Pin) (cb : Bool) :
    SameDevices s (s.potInit j pin cb) ∨ AddsDevice s (s.potInit j pin cb) (.pot j) := by
  have hcfg : SameDevices s (s.configured .analog pin none) := .of_eq rfl rfl rfl
  have hread := hcfg.trans (.adcRead _ j)
  rcases s.potInit_cases j pin cb with e | e | ⟨-, e⟩ | ⟨q, -, e⟩ <;> rw [e]
  · exact .inl (.of_eq rfl rfl rfl)
  · exact .inl (hread.trans (.of_eq rfl rfl rfl))
  · exact .inr (hcfg.trans_adds (.potConstructed (by simpa using h) absent pin cb none))
  · exact .inr (hread.trans_adds (.potConstructed (by simpa using h) absent pin cb (some q)))

theorem SameDevices.btnPoll {k : Nat} {b : Btn} (h : s.btns[k]? = some b) :
    SameDevices s (s.btnPoll k b) := by
  have hput (v : Bool) : SameDevices s ((s.lineGet k).putBtn k { b with pressed := v }) :=
    (SameDevices.lineGet s k).trans (.putBtn (b₀ := b) (by simpa using h) rfl)
  rcases s.btnPoll_cases k b with e | ⟨-, -, e⟩ | e | e <;> rw [e]
  · exact (SameDevices.lineGet s k).trans (.pollFault _ _)
  · exact (hput true).trans (.of_eq rfl rfl rfl)
  · exact (hput true).trans (.finishPoll _)
  · exact ((hput false).trans (.holdButton _ _)).trans (.finishPoll _)

theorem SameDevices.potPoll (s : State) (j : Nat) (p : Pot) : SameDevices s (s.potPoll j p) := by
  have hread := SameDevices.adcRead s j
  rcases s.potPoll_cases j p with e | ⟨q, -, -, -, e⟩ | ⟨q, -, e⟩ <;> rw [e]
  · exact hread.trans (.pollFault _ _)
  · exact hread.trans (.of_eq rfl rfl rfl)
  · exact (hread.trans (.storeLast _ j q)).trans (.finishPoll _)

theorem SameDevices.startRun (s : State) : SameDevices s s.startRun := by
  unfold State.startRun
  split <;> exact .of_eq rfl rfl rfl

theorem SameDevices.passBoundary (s : State) : SameDevices s s.passBoundary := by
  unfold State.passBoundary
  simp only
  split <;> exact .of_eq rfl rfl rfl

theorem SameDevices.resume (s : State) (p : Paused) : SameDevices s (s.resume p) := by
  cases p with
  | btnPoll k => exact .finishPoll s
  | potPoll j q => exact (SameDevices.storeLast s j q).trans (.finishPoll _)

/-- The state between a callback's end and the rest of its poll (spec/60_exceptions.md R298). -/
def State.windowClosed (s : State) (p : Paused) : State :=
  { s.record [.cbDone p.device] with cbDepth := s.cbDepth - 1, paused := none }

theorem State.closeWindow_eq (s : State) (p : Paused) :
    s.closeWindow p = (s.windowClosed p).resume p := rfl

theorem SameDevices.closeWindow (s : State) (p : Paused) : SameDevices s (s.closeWindow p) := by
  have hclosed : SameDevices s (s.windowClosed p) := .of_eq rfl rfl rfl
  rw [State.closeWindow_eq]
  exact hclosed.trans (.resume _ p)

/-- The three operations that construct a unit (spec/20_memory.md R89). -/
def isConstruction : Instr → Bool
  | .lcdInit _ _ | .btnInit _ _ _ _ | .potInit _ _ _ => true
  | _ => false

/-- An operation leaves the devices alone, or is an admitted construction that adds one. -/
theorem Effect.devices_cases (h : Effect s i t) :
    SameDevices s t ∨ s.constructible ∧ isConstruction i = true ∧ ∃ d, AddsDevice s t d := by
  cases h with
  | lcd | lcdInitFault | lcdInitDone | teardown | quit => exact .inl (.of_eq rfl rfl rfl)
  | btnInit k pin cb interval idle b atIndex absent =>
    exact (State.btnInit_devices atIndex absent pin cb (intervalOf interval)).imp_right
      fun h => ⟨idle, rfl, _, h⟩
  | potInit j pin cb idle p atIndex absent =>
    exact (State.potInit_devices atIndex absent pin cb).imp_right fun h => ⟨idle, rfl, _, h⟩
  | btnPoll k b pollable atIndex => exact .inl (.btnPoll atIndex)
  | potPoll j p => exact .inl (.potPoll s j p)
  | potValue j =>
    obtain ⟨r, e⟩ := s.potValue_cases j
    exact .inl (e ▸ (SameDevices.adcRead s j).trans (.of_eq rfl rfl rfl))
  | run => exact .inl (.startRun s)

/-! ## What no device operation writes -/

/-- The LCD, the shutdown actions, the counter and `running`. -/
def State.besideDevices (s : State) : (Bool × List Pin × List Action) × Int × Bool :=
  ((s.lcdPresent, s.lcdPins, s.shutdownActions), s.cursorPosition, s.running)

theorem State.lcd_of_besideDevices (h : t.besideDevices = s.besideDevices) :
    t.lcdPresent = s.lcdPresent ∧ t.lcdPins = s.lcdPins
      ∧ t.shutdownActions = s.shutdownActions := by
  simp_all [State.besideDevices]

theorem State.cursorPosition_of_besideDevices (h : t.besideDevices = s.besideDevices) :
    t.cursorPosition = s.cursorPosition := by
  simp_all [State.besideDevices]

theorem State.running_of_besideDevices (h : t.besideDevices = s.besideDevices) :
    t.running = s.running := by
  simp_all [State.besideDevices]

@[simp] theorem State.btnInit_besideDevices (s : State) (k : Nat) (pin : Pin) (cb : Bool)
    (d : Duration) : (s.btnInit k pin cb d).besideDevices = s.besideDevices := by
  rcases s.btnInit_cases k pin cb d with e | e | ⟨level, e⟩ <;> simp [e, State.besideDevices]

@[simp] theorem State.btnPoll_besideDevices (s : State) (k : Nat) (b : Btn) :
    (s.btnPoll k b).besideDevices = s.besideDevices := by
  rcases s.btnPoll_cases k b with e | ⟨-, -, e⟩ | e | e <;> simp [e, State.besideDevices]

@[simp] theorem State.potInit_besideDevices (s : State) (j : Nat) (pin : Pin) (cb : Bool) :
    (s.potInit j pin cb).besideDevices = s.besideDevices := by
  rcases s.potInit_cases j pin cb with e | e | ⟨-, e⟩ | ⟨q, -, e⟩ <;>
    simp [e, State.besideDevices, State.potConstructed]

@[simp] theorem State.potValue_besideDevices (s : State) (j : Nat) :
    (s.potValue j).besideDevices = s.besideDevices := by
  obtain ⟨r, e⟩ := s.potValue_cases j
  simp [e, State.besideDevices]

@[simp] theorem State.potPoll_besideDevices (s : State) (j : Nat) (p : Pot) :
    (s.potPoll j p).besideDevices = s.besideDevices := by
  rcases s.potPoll_cases j p with e | ⟨q, -, -, -, e⟩ | ⟨q, -, e⟩ <;>
    simp [e, State.besideDevices]

@[simp] theorem State.startRun_besideDevices (s : State) :
    s.startRun.besideDevices = s.besideDevices := by
  unfold State.startRun
  split <;> rfl

@[simp] theorem State.passBoundary_besideDevices (s : State) :
    s.passBoundary.besideDevices = s.besideDevices := by
  unfold State.passBoundary
  simp only
  split <;> rfl

@[simp] theorem State.closeWindow_besideDevices (s : State) (p : Paused) :
    (s.closeWindow p).besideDevices = s.besideDevices := by
  cases p <;> simp [State.closeWindow, State.resume, State.besideDevices]

/-! ### The writers of each of them -/

/-- The operations that write the counter (spec/10_state.md R35). -/
def writesCounter (s : State) (i : Instr) : Prop :=
  i ∈ [.clear, .home, .teardown, .quit] ∨ (∃ pins text, i = .lcdInit pins text)
    ∨ (∃ text, i = .write text) ∨ (∃ n, i = .moveCursor n)
    ∨ (i = .newLine ∧ s.cfg.newlineCpMode = .advance)

theorem Effect.cursorPosition_cases (h : Effect s i t) :
    t.cursorPosition = s.cursorPosition ∨ writesCounter s i := by
  cases h with
  | lcd _ ws c r control present kind counter =>
    refine counter.imp_right fun hw => ?_
    rcases hw with rfl | rfl | h | h | h
    · exact .inl (by simp)
    · exact .inl (by simp)
    · exact .inr (.inr (.inl h))
    · exact .inr (.inr (.inr (.inl h)))
    · exact .inr (.inr (.inr (.inr h)))
  | lcdInitFault => exact .inl rfl
  | lcdInitDone => exact .inr (.inr (.inl ⟨_, _, rfl⟩))
  | teardown | quit => exact .inr (.inl (by simp))
  | btnInit | btnPoll | potInit | potValue | potPoll | run =>
    exact .inl (State.cursorPosition_of_besideDevices (by simp))

/-- The LCD and the shutdown actions stay, or an LCD_INIT constructs the LCD. -/
theorem Effect.lcd_cases (h : Effect s i t) :
    (t.lcdPresent = s.lcdPresent ∧ t.lcdPins = s.lcdPins ∧ t.shutdownActions = s.shutdownActions)
    ∨ ∃ pins text, i = .lcdInit pins text ∧ s.constructible ∧ s.lcdPresent = false
        ∧ pins.length = 10 ∧ t.lcdPins = pins
        ∧ t.shutdownActions = s.shutdownActions ++ [.teardown] := by
  cases h with
  | lcd | lcdInitFault | teardown | quit => exact .inl ⟨rfl, rfl, rfl⟩
  | lcdInitDone pins text idle absent ten =>
    exact .inr ⟨pins, text, rfl, idle, absent, ten, rfl, rfl⟩
  | btnInit | btnPoll | potInit | potValue | potPoll | run =>
    exact .inl (State.lcd_of_besideDevices (by simp))

theorem Effect.running_cases (h : Effect s i t) :
    t.running = s.running ∨ i = .quit ∧ t.running = false := by
  cases h with
  | lcd | lcdInitFault | lcdInitDone | teardown => exact .inl rfl
  | quit => exact .inr ⟨rfl, rfl⟩
  | btnInit | btnPoll | potInit | potValue | potPoll | run =>
    exact .inl (State.running_of_besideDevices (by simp))

end

/-! ## The counter and the LCD -/

/-- Settles O22, from the effects of the operations. -/
theorem onlyListedOperationsWriteTheCounter : Obligations.OnlyListedOperationsWriteTheCounter := by
  intro i s t h hne
  exact (exec_effect i s t h).cursorPosition_cases.resolve_left hne

/-- Settles O28: only an LCD_INIT writes these elements, and it is refused once the LCD is there. -/
theorem lcdStaysAsConstructed : Obligations.LcdStaysAsConstructed := by
  intro i s t h present
  rcases (exec_effect i s t h).lcd_cases with ⟨hl, hp, ha⟩ | ⟨_, _, _, _, absent, _⟩
  · exact ⟨hl.trans present, hp, ha⟩
  · exact absurd present (by simp [absent])

/-- Settles O27: the pins are those of the LCD_INIT that constructs the LCD, and stay by O28. -/
theorem lcdPinsAreRecordedAndFixed : Obligations.LcdPinsAreRecordedAndFixed := by
  refine ⟨fun pins text s t h present => ?_, fun i s t h present => ?_⟩
  · obtain ⟨-, absent, -⟩ := (execLcdInit_next_iff pins text s t).1 h
    rcases (exec_effect _ s t h).lcd_cases with ⟨hl, -⟩ | ⟨_, _, hi, -, -, ten, hp, -⟩
    · exact absurd present (by simp [hl, absent])
    · cases hi
      exact ⟨hp, ten, fun k l p hk hpin => t.pinOf_position k l p hk (hp ▸ hpin)⟩
  · obtain ⟨-, hp, -⟩ := lcdStaysAsConstructed i s t h present
    exact hp

/-! ## The registries, step by step -/

section

variable {s t : State}

theorem State.hostHasControl_eq_false_iff (s : State) :
    s.hostHasControl = false ↔ s.seqActive = true ∧ s.cbDepth = 0 := by
  simp [State.hostHasControl]

/-- What a step that is no block reset does, the pending action taken off the list first. -/
theorem step_cases_of_no_reset (h : step s = .next t)
    (noReset : s.pending.head? ≠ some .blockReset) : ∃ rest,
    t = { s with pending := rest }
    ∨ (∃ i, Effect { s with pending := rest } i t)
    ∨ (∃ p, s.paused = some p ∧ t = State.closeWindow { s with pending := rest } p)
    ∨ (s.hostHasControl = false ∧ t = State.passBoundary { s with pending := rest }) := by
  rcases step_next_cases s t h with ⟨rest, hp, -⟩ | ⟨-, -, rfl⟩ | ⟨-, w, rest, i, -, -, he⟩ |
    ⟨-, rest, p, -, paused, rfl⟩ | ⟨-, d, -, he⟩ | ⟨control, -, rfl⟩
  · exact absurd (by simp [hp]) noReset
  · exact ⟨t.pending, .inl rfl⟩
  · exact ⟨rest, .inr (.inl ⟨i, exec_effect i _ t he⟩)⟩
  · exact ⟨rest, .inr (.inr (.inl ⟨p, paused, rfl⟩))⟩
  · exact ⟨s.pending, .inr (.inl ⟨_, exec_effect _ s t he⟩)⟩
  · exact ⟨s.pending, .inr (.inr (.inr ⟨control, rfl⟩))⟩

/-- The devices of a state do not depend on what the host does next. -/
theorem SameDevices.pending (s : State) (rest : List HostAction) :
    SameDevices s { s with pending := rest } := .of_eq rfl rfl rfl

theorem step_devices_cases (h : step s = .next t)
    (noReset : s.pending.head? ≠ some .blockReset) :
    SameDevices s t ∨ s.constructible ∧ ∃ d, AddsDevice s t d := by
  obtain ⟨rest, rfl | ⟨i, he⟩ | ⟨p, -, rfl⟩ | ⟨-, rfl⟩⟩ := step_cases_of_no_reset h noReset
  · exact .inl (.pending s rest)
  · rcases he.devices_cases with same | ⟨idle, -, d, adds⟩
    · exact .inl ((SameDevices.pending s rest).trans same)
    · exact .inr ⟨idle, d, (SameDevices.pending s rest).trans_adds adds⟩
  · exact .inl ((SameDevices.pending s rest).trans (.closeWindow _ p))
  · exact .inl ((SameDevices.pending s rest).trans (.passBoundary _))

theorem step_extends_shutdownActions (h : step s = .next t)
    (noReset : s.pending.head? ≠ some .blockReset) : s.shutdownActions <+: t.shutdownActions := by
  obtain ⟨rest, rfl | ⟨i, he⟩ | ⟨p, -, rfl⟩ | ⟨-, rfl⟩⟩ := step_cases_of_no_reset h noReset
  · simp
  · rcases he.lcd_cases with ⟨-, -, ha⟩ | ⟨_, _, _, _, _, _, _, ha⟩
    · simp [ha]
    · simp [ha]
  · obtain ⟨-, -, ha⟩ := State.lcd_of_besideDevices
      (State.closeWindow_besideDevices { s with pending := rest } p)
    simp [ha]
  · obtain ⟨-, -, ha⟩ := State.lcd_of_besideDevices
      (State.passBoundary_besideDevices { s with pending := rest })
    simp [ha]

/-- Both sequences stay, or the operation is a construction that is admitted. -/
theorem Effect.registries_cases {i : Instr} (h : Effect s i t) :
    (t.registry = s.registry ∧ t.shutdownActions = s.shutdownActions)
      ∨ s.constructible ∧ isConstruction i = true := by
  rcases h.devices_cases with same | ⟨idle, hi, -⟩
  · rcases h.lcd_cases with ⟨-, -, ha⟩ | ⟨_, _, rfl, idle, -⟩
    · exact .inl ⟨same.registry, ha⟩
    · exact .inr ⟨idle, rfl⟩
  · exact .inr ⟨idle, hi⟩

end

/-- Settles O50: the one device a step can add comes from an admitted construction. -/
theorem registryOnlyGrowsByConstruction : Obligations.RegistryOnlyGrowsByConstruction := by
  intro s t h noReset
  rcases step_devices_cases h noReset with same | ⟨idle, d, adds⟩
  · exact .inl same.registry
  · exact .inr ⟨d, adds.registry, adds.absent, (adds.present d).2 (.inl rfl), idle⟩

/-- Settles O51, from what a construction adds to either sequence. -/
theorem registriesAreAppendOnly : Obligations.RegistriesAreAppendOnly := by
  refine ⟨fun i s t h hi => ?_, fun s t h noReset => ?_⟩
  · refine (exec_effect i s t h).registries_cases.resolve_right fun ⟨idle, hc⟩ => ?_
    obtain ⟨⟨inactive, -⟩, -⟩ := idle
    rcases hi with ⟨hl, hb, hp⟩ | active
    · unfold isConstruction at hc
      split at hc
      · exact hl _ _ rfl
      · exact hb _ _ _ _ rfl
      · exact hp _ _ _ rfl
      · cases hc
    · simp [inactive] at active
  · have hact := step_extends_shutdownActions h noReset
    rcases step_devices_cases h noReset with same | ⟨-, d, adds⟩
    · refine ⟨by simp [same.registry], hact, fun e hs ht => ?_⟩
      rw [same.registry]
      exact hs (same.present e ▸ ht)
    · refine ⟨by simp [adds.registry], hact, fun e hs ht => ?_⟩
      rw [adds.registry, List.mem_append, List.mem_singleton]
      exact ((adds.present e).1 ht).symm.imp_left hs

section

variable {s t : State} {i : Instr} {d : Device}

/-! ## The invariant -/

/-! ### Updates the invariant does not read -/

theorem Inv.record (h : Inv s) (es : List Entry) : Inv (s.record es) := { h with }

theorem Inv.report (h : Inv s) (r : Reply) : Inv (s.report r) := { h with }

theorem Inv.pending (h : Inv s) (rest : List HostAction) : Inv { s with pending := rest } :=
  { h with }

theorem Inv.holdButton (h : Inv s) (d : Duration) : Inv (s.holdButton d) :=
  { h with timersIdle := h.timersIdle.imp_right fun _ => rfl }

theorem Inv.lineGet (h : Inv s) (k : Nat) : Inv (s.lineGet k) := by
  have htake : Inv s.takeLevel := by
    unfold State.takeLevel
    split <;> exact { h with }
  exact htake.record _

theorem Inv.adcRead (h : Inv s) (j : Nat) : Inv (s.adcRead j) := by
  have htake : Inv s.takeSample := by
    unfold State.takeSample
    split <;> exact { h with }
  exact htake.record _

theorem State.afterFrames_enableLow (h : s.lines.e = false) (ws : List (Bool × Byte)) :
    (s.afterFrames ws).lines.e = false := by
  unfold State.afterFrames
  cases ws.getLast? with
  | none => exact h
  | some w => rfl

theorem Inv.afterFrames (h : Inv s) (ws : List (Bool × Byte)) : Inv (s.afterFrames ws) :=
  { h with
    enableLow := State.afterFrames_enableLow h.enableLow ws
    timersIdle := h.timersIdle.imp_left fun idle => by simp [idle] }

/-! ### The callback window and the pass -/

theorem Inv.paused_eq_none (h : Inv s) (closed : s.cbDepth = 0) : s.paused = none := by
  have hd := h.windowDepth
  cases hp : s.paused with
  | none => rfl
  | some p => simp [closed, hp] at hd

/-- The fields that speak of the pass can be chosen anew while no poll is paused. -/
theorem Inv.atIndex (h : Inv s) (closed : s.paused = none) (active : Bool) (k : Nat)
    (idle : active = false → k = 0) (range : k < s.registry.length ∨ k = 0) :
    Inv { s with seqActive := active, passIdx := k } :=
  { h with
    idleIndex := idle
    indexInRange := range
    pausedCurrent := fun p hp => by simp [closed] at hp }

theorem Inv.passBoundary (h : Inv s) (closed : s.paused = none) : Inv s.passBoundary := by
  unfold State.passBoundary
  simp only
  split
  · exact h.atIndex closed s.seqActive 0 (fun _ => rfl) (.inr rfl)
  · exact (h.atIndex closed false 0 (fun _ => rfl) (.inr rfl)).report .done

theorem Inv.finishPoll (h : Inv s) (closed : s.paused = none) : Inv s.finishPoll := by
  rcases s.finishPoll_cases with ⟨active, inner, e⟩ | ⟨-, -, -, e⟩ | ⟨-, -, -, e⟩ | ⟨-, e⟩ <;>
    rw [e]
  · exact h.atIndex closed s.seqActive (s.passIdx + 1) (by simp [active]) (.inl inner)
  · exact h.atIndex closed s.seqActive 0 (fun _ => rfl) (.inr rfl)
  · exact (h.atIndex closed false 0 (fun _ => rfl) (.inr rfl)).report .done
  · exact h.report .done

theorem Inv.pollFault (h : Inv s) (closed : s.paused = none) (d : Device) :
    Inv (s.pollFault d) := by
  rw [State.pollFault_eq]
  split
  · exact h.finishPoll closed
  · exact h.report _

theorem Inv.startRun (h : Inv s) (idle : s.hostIdle) : Inv s.startRun := by
  obtain ⟨-, closed⟩ := idle
  unfold State.startRun
  split
  · exact h.atIndex (h.paused_eq_none closed) true 0 (fun _ => rfl) (.inr rfl)
  · exact h.report .done

theorem Inv.openWindow (h : Inv s) (p : Paused) (closed : s.cbDepth = 0)
    (range : ∀ j q, p = .potPoll j q → q ≤ 100)
    (current : s.seqActive = true → s.registry[s.passIdx]? = some p.device) :
    Inv (s.openWindow p) :=
  { h with
    windowDepth := by simp [closed]
    pausedInRange := fun j q hp => range j q (Option.some.inj hp)
    pausedCurrent := fun p' hp => Option.some.inj hp ▸ current }

theorem Inv.windowClosed (h : Inv s) {p : Paused} (paused : s.paused = some p) :
    Inv (s.windowClosed p) :=
  { h with
    windowDepth := by simp [State.windowClosed, h.windowDepth, paused]
    pausedInRange := fun j q hp => by simp [State.windowClosed] at hp
    pausedCurrent := fun p' hp => by simp [State.windowClosed] at hp }

/-! ### The devices -/

theorem Inv.intervals_putBtn (h : Inv s) (k : Nat) {b : Btn} (interval : 0 ≤ b.repeatInterval) :
    ∀ b' ∈ (s.putBtn k b).btns, 0 ≤ b'.repeatInterval := by
  intro b' hb'
  rcases List.mem_or_eq_of_mem_set hb' with hm | rfl
  · exact h.intervals b' hm
  · exact interval

theorem Inv.putBtn (h : Inv s) {k : Nat} {b₀ b : Btn} (hb : s.btns[k]? = some b₀)
    (present : b.present = b₀.present) (interval : 0 ≤ b.repeatInterval) : Inv (s.putBtn k b) :=
  { h with
    registered := (SameDevices.putBtn hb present).mem_registry_iff h.registered
    intervals := h.intervals_putBtn k interval }

theorem State.mem_pots_storeLast {j q : Nat} {p : Pot} (h : p ∈ (s.storeLast j q).pots) :
    p ∈ s.pots ∨ p.lastValue = some q := by
  obtain ⟨m, hm⟩ := List.mem_iff_getElem?.1 h
  by_cases hj : j = m
  · obtain ⟨p₀, -, rfl⟩ : ∃ p₀, s.pots[m]? = some p₀ ∧ { p₀ with lastValue := some q } = p := by
      simpa [hj] using hm
    exact .inr rfl
  · exact .inl (List.mem_of_getElem? (i := m) (by simpa [hj] using hm))

theorem Inv.storeLast (h : Inv s) (j : Nat) {q : Nat} (range : q ≤ 100) :
    Inv (s.storeLast j q) :=
  { h with
    registered := (SameDevices.storeLast s j q).mem_registry_iff h.registered
    lastInRange := fun p hp q' hq' => by
      rcases State.mem_pots_storeLast hp with hm | hq
      · exact h.lastInRange p hm q' hq'
      · simp_all
    lastNone := fun p hp present hn => by
      rcases State.mem_pots_storeLast hp with hm | hq
      · exact h.lastNone p hm present hn
      · simp_all }

theorem Inv.constructBtn (h : Inv s) (idle : s.constructible) {k : Nat} {b₀ b : Btn}
    (hb : s.btns[k]? = some b₀) (absent : b₀.present = false) (present : b.present = true)
    (interval : 0 ≤ b.repeatInterval) : Inv ((s.putBtn k b).register (.btn k)) := by
  obtain ⟨⟨inactive, closed⟩, -⟩ := idle
  have adds := AddsDevice.putBtn hb absent present
  exact { h with
    indexInRange := .inr (h.idleIndex inactive)
    registered := adds.mem_registry_iff h.registered
    registeredOnce := adds.nodup_registry h.registered h.registeredOnce
    intervals := h.intervals_putBtn k interval
    pausedCurrent := fun p hp => by simp [h.paused_eq_none closed] at hp }

theorem Inv.potConstructed (h : Inv s) (idle : s.constructible) {j : Nat} {p₀ : Pot}
    (hp : s.pots[j]? = some p₀) (absent : p₀.present = false) (pin : Pin) (cb : Bool)
    {last : Option Nat} (range : ∀ q, last = some q → q ≤ 100)
    (hnone : last = none → s.cfg.potInitMode = .noValue) :
    Inv (s.potConstructed j pin cb last) := by
  obtain ⟨⟨inactive, closed⟩, -⟩ := idle
  have adds := AddsDevice.potConstructed hp absent pin cb last
  exact { h with
    indexInRange := .inr (h.idleIndex inactive)
    registered := adds.mem_registry_iff h.registered
    registeredOnce := adds.nodup_registry h.registered h.registeredOnce
    lastInRange := fun p' hp' => by
      rcases List.mem_or_eq_of_mem_set hp' with hm | rfl
      · exact h.lastInRange p' hm
      · exact range
    lastNone := fun p' hp' => by
      rcases List.mem_or_eq_of_mem_set hp' with hm | rfl
      · exact h.lastNone p' hm
      · exact fun _ => hnone
    pausedCurrent := fun p hp => by cases (h.paused_eq_none closed).symm.trans hp }

/-! ### The operations -/

theorem Inv.constructLcd (h : Inv s) (absent : s.lcdPresent = false) {pins : List Pin}
    (ten : pins.length = 10) (c : Int) :
    Inv { s with lcdPins := pins, lcdPresent := true, cursorPosition := c
                 shutdownActions := s.shutdownActions ++ [.teardown] } :=
  { h with
    shutdown := by simp [h.shutdown, absent]
    tenPins := fun _ => ten }

theorem Inv.closeWindow (h : Inv s) {p : Paused} (paused : s.paused = some p) :
    Inv (s.closeWindow p) := by
  have hw := h.windowClosed paused
  rw [State.closeWindow_eq]
  cases p with
  | btnPoll k => exact hw.finishPoll rfl
  | potPoll j q => exact (hw.storeLast j (h.pausedInRange j q paused)).finishPoll rfl

theorem Inv.btnInit (h : Inv s) (idle : s.constructible) {k : Nat} {b : Btn}
    (hb : s.btns[k]? = some b) (absent : b.present = false) (pin : Pin) (cb : Bool)
    {interval : Duration} (hi : 0 ≤ interval) : Inv (s.btnInit k pin cb interval) := by
  have hread : Inv ((s.configured .input pin (some (s.cfg.pullOf k))).lineGet k) :=
    (h.record _).lineGet k
  rcases s.btnInit_cases k pin cb interval with e | e | ⟨level, e⟩ <;> rw [e]
  · exact h.report _
  · exact hread.report _
  · exact (hread.constructBtn (by simpa [State.constructible, State.hostIdle] using idle)
      (by simpa using hb) absent rfl hi).report .done

theorem Inv.btnPoll (h : Inv s) {k : Nat} {b : Btn} (pollable : s.pollable (.btn k))
    (hb : s.btns[k]? = some b) : Inv (s.btnPoll k b) := by
  obtain ⟨closed, current⟩ := pollable
  have hnone := h.paused_eq_none closed
  have hput (v : Bool) : Inv ((s.lineGet k).putBtn k { b with pressed := v }) :=
    (h.lineGet k).putBtn (b₀ := b) (by simpa using hb) rfl
      (h.intervals b (List.mem_of_getElem? hb))
  rcases s.btnPoll_cases k b with e | ⟨-, -, e⟩ | e | e <;> rw [e]
  · exact (h.lineGet k).pollFault (by simpa using hnone) _
  · exact (hput true).openWindow _ (by simpa using closed) (by simp)
      (by simpa [Paused.device] using current)
  · exact (hput true).finishPoll (by simpa using hnone)
  · exact ((hput false).holdButton _).finishPoll (by simpa using hnone)

theorem Inv.potInit (h : Inv s) (idle : s.constructible) {j : Nat} {p : Pot}
    (hp : s.pots[j]? = some p) (absent : p.present = false) (pin : Pin) (cb : Bool) :
    Inv (s.potInit j pin cb) := by
  have hcfg : Inv (s.configured .analog pin none) := h.record _
  have hread : Inv ((s.configured .analog pin none).adcRead j) := hcfg.adcRead j
  rcases s.potInit_cases j pin cb with e | e | ⟨mode, e⟩ | ⟨q, range, e⟩ <;> rw [e]
  · exact h.report _
  · exact hread.report _
  · exact hcfg.potConstructed idle hp absent pin cb (by simp) (fun _ => mode)
  · exact hread.potConstructed (by simpa [State.constructible, State.hostIdle] using idle)
      (by simpa using hp) absent pin cb (by simpa using range) (by simp)

theorem Inv.potPoll (h : Inv s) {j : Nat} (pollable : s.pollable (.pot j)) (p : Pot) :
    Inv (s.potPoll j p) := by
  obtain ⟨closed, current⟩ := pollable
  have hread := h.adcRead j
  have hnone : (s.adcRead j).paused = none := by simpa using h.paused_eq_none closed
  rcases s.potPoll_cases j p with e | ⟨q, range, -, -, e⟩ | ⟨q, range, e⟩ <;> rw [e]
  · exact hread.pollFault hnone _
  · exact hread.openWindow _ (by simpa using closed) (by simpa using range)
      (by simpa [Paused.device] using current)
  · exact (hread.storeLast j range).finishPoll hnone

/-- Every operation keeps the invariant. -/
theorem Effect.keeps_inv (he : Effect s i t) (h : Inv s) : Inv t := by
  cases he with
  | lcd _ ws c r => exact { h.afterFrames ws with }
  | lcdInitFault pins text qs cause => exact (h.record _).report _
  | lcdInitDone pins text idle absent ten =>
    exact (((h.record _).afterFrames _).constructLcd absent ten _).report .done
  | teardown inside => simp [h.outsideQuit] at inside
  | btnInit k pin cb interval idle b atIndex absent inType =>
    exact h.btnInit idle atIndex absent pin cb (by simpa [intervalInType] using inType)
  | btnPoll k b pollable atIndex => exact h.btnPoll pollable atIndex
  | potInit j pin cb idle p atIndex absent => exact h.potInit idle atIndex absent pin cb
  | potValue j =>
    obtain ⟨r, e⟩ := s.potValue_cases j
    exact e ▸ (h.adcRead j).report r
  | potPoll j p pollable => exact h.potPoll pollable p
  | run idle => exact h.startRun idle
  | quit => exact { h.afterFrames _ with outsideQuit := rfl }

/-! ### Reset -/

@[simp] theorem State.blockReset_devicePresent (s : State) (d : Device) :
    s.blockReset.devicePresent d = false := by
  cases d with
  | btn k => by_cases hk : k < s.btns.length <;> simp [State.devicePresent, State.blockReset, hk]
  | pot j => by_cases hj : j < s.pots.length <;> simp [State.devicePresent, State.blockReset, hj]

theorem State.blockReset_reset : State.reset.blockReset = State.reset := rfl

theorem step_of_blockReset {rest : List HostAction} (presented : s.pending = .blockReset :: rest) :
    step s = .next (State.blockReset { s with pending := rest }) := by
  simp [step, nextStep, presented]

/-- A block reset gives the invariant, whatever held before. -/
theorem State.blockReset_inv (s : State) : Inv s.blockReset where
  enableLow := rfl
  timersIdle := ⟨rfl, rfl⟩
  outsideQuit := rfl
  windowDepth := rfl
  shutdown := rfl
  tenPins := by simp [State.blockReset]
  idleIndex _ := rfl
  indexInRange := .inr rfl
  registered d := by rw [State.blockReset_devicePresent]; simp [State.blockReset]
  registeredOnce := List.nodup_nil
  intervals b hb := by
    rw [List.eq_of_mem_replicate hb]
    norm_num
  lastInRange p hp := by simp [List.eq_of_mem_replicate hp]
  lastNone p hp := by simp [List.eq_of_mem_replicate hp]
  pausedInRange := by simp [State.blockReset]
  pausedCurrent := by simp [State.blockReset]

end

/-- Settles O56: the reset state is its own block reset. -/
theorem invariantHoldsAfterReset : Obligations.InvariantHoldsAfterReset := by
  unfold Obligations.InvariantHoldsAfterReset
  rw [← State.blockReset_reset]
  exact State.reset.blockReset_inv

/-- Settles O9: the step takes a block reset before it looks at who has control. -/
theorem blockResetRestoresEveryElement : Obligations.BlockResetRestoresEveryElement := by
  intro rest s presented
  rw [step_of_blockReset presented]
  rfl

/-- Settles O10: no device is present after a block reset, which the reset state is. -/
theorem resetValuesOfTheSpec : Obligations.ResetValuesOfTheSpec := by
  have hdevice (d : Device) : State.reset.devicePresent d = false := by
    rw [← State.blockReset_reset, State.blockReset_devicePresent]
  exact ⟨rfl, rfl, hdevice, rfl, rfl, rfl, rfl, rfl, rfl, rfl, rfl, rfl⟩

/-! ## The invariant at every step -/

/-- Settles O57: a block reset gives the invariant, and everything else a step does keeps it. -/
theorem everyStepKeepsTheInvariant : Obligations.EveryStepKeepsTheInvariant := by
  intro s t h hstep
  by_cases reset : s.pending.head? = some .blockReset
  · obtain ⟨rest, hp⟩ := List.head?_eq_some_iff.1 reset
    rw [step_of_blockReset hp, next_eq_iff] at hstep
    exact hstep ▸ State.blockReset_inv _
  · obtain ⟨rest, rfl | ⟨i, he⟩ | ⟨p, paused, rfl⟩ | ⟨control, rfl⟩⟩ :=
      step_cases_of_no_reset hstep reset
    · exact h.pending rest
    · exact he.keeps_inv (h.pending rest)
    · exact (h.pending rest).closeWindow paused
    · obtain ⟨-, closed⟩ := s.hostHasControl_eq_false_iff.1 control
      exact (h.pending rest).passBoundary (h.paused_eq_none closed)

/-! ## Nothing to do -/

/-- While RUN is active, no window is open and no block reset comes, the sequencer acts. -/
theorem step_of_sequencing (s : State) (h : s.sequencing) : step s = sequencerStep s := by
  obtain ⟨active, closed, noReset⟩ := h
  have control : s.hostHasControl = false := s.hostHasControl_eq_false_iff.2 ⟨active, closed⟩
  unfold step nextStep
  split
  next rest hp => exact absurd (by simp [hp]) noReset
  next => simp [control]
  next => simp [control]

/-- Settles O8: the pass over an empty registry ends where it began. -/
theorem blockWaitsWithNothingToDo : Obligations.BlockWaitsWithNothingToDo := by
  refine ⟨fun s control hp => ?_, fun s sequencing empty first running => ?_⟩
  · simp [step, nextStep, hp, control]
  · have hpass : s.passBoundary = { s with passIdx := 0 } := if_pos running
    rw [step_of_sequencing s sequencing, sequencerStep, empty]
    simp only [List.getElem?_nil]
    rw [hpass, ← first]

/-! ## The LCD operations without an LCD -/

section

variable {s : State} (control : s.hostHasControl = true) (absent : s.lcdPresent = false)

include control absent

theorem whenLcd_absent (k : Result) : whenLcd s k = .refused .lcdAbsent := by
  simp [whenLcd, whenControl, control, absent]

theorem sendFrame_absent (rs : Bool) (b : Byte) : sendFrame rs b s = .refused .lcdAbsent :=
  whenLcd_absent control absent _

theorem sendByte_absent (rs : Bool) {b : Int} (inType : byteInType b = true) :
    sendByte rs b s = .refused .lcdAbsent := by
  rw [sendByte, if_pos inType, sendFrame_absent control absent]

/-- Every LCD operation within type, the FRAME9 rows included, is refused without an LCD. -/
theorem exec_lcdAbsent (i : Instr) (hi : isLcdOperation i = true) (inType : i.wf = true) :
    exec i s = .refused .lcdAbsent := by
  cases i with
  | lcdInit | teardown | btnInit | btnPoll | potInit | potValue | potPoll | run | quit =>
    cases hi
  | sendCommand b => exact sendByte_absent control absent false inType
  | sendData b => exact sendByte_absent control absent true inType
  | write text => exact (if_pos inType).trans (whenLcd_absent control absent _)
  | moveCursor | newLine | clear | home | rdCursor => exact whenLcd_absent control absent _
  | lcdOn | lcdOff | cursorOn | cursorOff | showCursor | hideCursor | blinkOn | blinkOff
  | scrollLeft | scrollRight | frameClearDisplay | frameMoveHome | frameEntryMode | frameTurnOff
  | frameBlinkOff | frameBlinkOn | frameMoveLeft | frameMoveRight | frameScrollLeft
  | frameScrollRight | frameFont5x7 | frameData =>
    exact sendFrame_absent control absent _ _

end

/-- Settles O53: the eighteen are LCD operations within type. -/
theorem lcdOperationsNeedTheLcd : Obligations.LcdOperationsNeedTheLcd := by
  intro s b n text control absent hb hb' htext i hi
  have byteOk : byteInType b = true := by simp [byteInType, hb, hb']
  have textOk : textInType text = true := by simpa [textInType] using htext
  have hkind : isLcdOperation i = true ∧ i.wf = true := by
    fin_cases hi <;> simp [isLcdOperation, Instr.wf, byteOk, textOk]
  obtain ⟨kind, inType⟩ := hkind
  exact exec_lcdAbsent control absent i kind inType

/-! ## The writer of `running` -/

/-! ### What each operand form of format HOSTOP decodes to -/

@[simp] theorem decodeNullary_ok_iff (i j : Instr) (sel : BitVec 8) (args : List Operand) :
    decodeNullary i sel args = .ok j ↔ args = [] ∧ i = j := by
  unfold decodeNullary
  split <;> simp_all

@[simp] theorem decodeIndexed_ok_iff (f : Nat → Instr) (j : Instr) (sel : BitVec 8)
    (args : List Operand) :
    decodeIndexed f sel args = .ok j ↔ ∃ k, args = [.index k] ∧ f k = j := by
  unfold decodeIndexed
  split <;> simp_all

@[simp] theorem decodeByteOp_ok_iff (f : Int → Instr) (j : Instr) (sel : BitVec 8)
    (args : List Operand) :
    decodeByteOp f sel args = .ok j ↔ ∃ b, args = [.byte b] ∧ f b = j := by
  unfold decodeByteOp
  split <;> simp_all

@[simp] theorem decodeWrite_ok_iff (j : Instr) (sel : BitVec 8) (args : List Operand) :
    decodeWrite sel args = .ok j ↔ ∃ cs, args = [.text cs] ∧ .write cs = j := by
  unfold decodeWrite
  split <;> simp_all

@[simp] theorem decodeMove_ok_iff (j : Instr) (sel : BitVec 8) (args : List Operand) :
    decodeMove sel args = .ok j ↔ ∃ n, args = [.int n] ∧ .moveCursor n = j := by
  unfold decodeMove
  split <;> simp_all

@[simp] theorem decodePotInit_ok_iff (i : Instr) (sel : BitVec 8) (args : List Operand) :
    decodePotInit sel args = .ok i ↔
      ∃ j p cb, args = [.index j, .pin p, .callback cb] ∧ .potInit j p cb = i := by
  constructor
  · unfold decodePotInit
    split
    · exact fun h => ⟨_, _, _, rfl, by simpa using h⟩
    · simp
  · rintro ⟨j, p, cb, rfl, rfl⟩
    rfl

@[simp] theorem decodeLcdInit_ok_iff (i : Instr) (sel : BitVec 8) (args : List Operand) :
    decodeLcdInit sel args = .ok i ↔
      ∃ ps text, args = [.pins ps, optional .text text] ∧ .lcdInit ps text = i := by
  constructor
  · unfold decodeLcdInit
    split
    · exact fun h => ⟨_, some _, rfl, by simpa using h⟩
    · exact fun h => ⟨_, none, rfl, by simpa using h⟩
    · simp
  · rintro ⟨ps, text, rfl, rfl⟩
    cases text <;> rfl

@[simp] theorem decodeBtnInit_ok_iff (i : Instr) (sel : BitVec 8) (args : List Operand) :
    decodeBtnInit sel args = .ok i ↔ ∃ k p cb d,
      args = [.index k, .pin p, .callback cb, optional .interval d] ∧ .btnInit k p cb d = i := by
  constructor
  · unfold decodeBtnInit
    split
    · exact fun h => ⟨_, _, _, some _, rfl, by simpa using h⟩
    · exact fun h => ⟨_, _, _, none, rfl, by simpa using h⟩
    · simp
  · rintro ⟨k, p, cb, d, rfl, rfl⟩
    cases d <;> rfl

/-! ### The word that is QUIT -/

theorem decodeOp_quit {sel : BitVec 8} {args : List Operand} (h : decodeOp sel args = .ok .quit) :
    sel = 0x19 ∧ args = [] := by
  unfold decodeOp at h
  split at h
  case h_26 hsel =>
    obtain ⟨hargs, -⟩ := (decodeNullary_ok_iff ..).1 h
    exact ⟨BitVec.eq_of_toNat_eq hsel, hargs⟩
  all_goals simp at h

theorem decodeFrame_ne_quit (w : BitVec 9) : decodeFrame w ≠ .ok .quit := by
  unfold decodeFrame
  split
  · simp
  · split <;> simp

/-- QUIT is read from one word only: its selector without operands (spec/30_encoding.md R116). -/
theorem decode_quit {w : HostWord} (h : decode w = .ok .quit) : w = .op 0x19 [] := by
  cases w with
  | op sel args =>
    obtain ⟨rfl, rfl⟩ := decodeOp_quit h
    rfl
  | frame w => exact absurd h (decodeFrame_ne_quit w)

/-- Settles O49: of all that a step can do only the QUIT of a presented word writes `running`. -/
theorem onlyQuitWritesRunning : Obligations.OnlyQuitWritesRunning := by
  intro s t h noReset hne
  rcases step_next_cases s t h with ⟨rest, hp, -⟩ | ⟨-, -, rfl⟩ |
    ⟨control, w, rest, i, hp, hd, he⟩ | ⟨-, rest, p, -, -, rfl⟩ | ⟨-, d, -, he⟩ | ⟨-, -, rfl⟩
  · exact absurd (by simp [hp]) noReset
  · exact absurd rfl hne
  · obtain ⟨rfl, stopped⟩ := (exec_effect i _ t he).running_cases.resolve_left hne
    exact ⟨stopped, control, by rw [hp, decode_quit hd]; rfl⟩
  · exact absurd (State.running_of_besideDevices
      (State.closeWindow_besideDevices { s with pending := rest } p)) hne
  · obtain ⟨hi, -⟩ := (exec_effect _ s t he).running_cases.resolve_left hne
    cases d <;> cases hi
  · exact absurd (State.running_of_besideDevices (by simp)) hne

end Sys2Proof.Machine

/-! PROOFS. The data lines after a frame (O11), and the refusals of a device's lifecycle (O55). -/

namespace Sys2Proof.Machine

/-! ## The data lines -/

/-- The lines of `frameLines`, read from D0 up, are the shift and mask of R77. -/
theorem frameLines_dataLevels (rs : Bool) (b : Byte) :
    (frameLines rs b).dataLevels = (List.range 8).map (bitLevel b) := by
  simp [frameLines, Lines.dataLevels, List.range_succ]

theorem State.frame_dataLevels (s : State) (rs : Bool) (b : Byte) :
    (s.frame rs b).lines.dataLevels = (List.range 8).map (bitLevel b) := by
  rw [State.frame_eq]
  exact frameLines_dataLevels rs b

/-- The byte of an operand of at least 0 has the operand's own bits. -/
theorem bitLevel_byteOf {b : Int} (nonneg : 0 ≤ b) {k : Nat} (hk : k < 8) :
    bitLevel (byteOf b) k = ((b.toNat >>> k) &&& 1 == 1) := by
  obtain ⟨n, rfl⟩ := Int.eq_ofNat_of_zero_le nonneg
  rw [bitLevel_eq_getLsbD, byteOf, BitVec.ofInt_natCast, BitVec.getLsbD_ofNat, decide_eq_true hk,
    Bool.true_and, Nat.testBit_eq_decide_div_mod_eq, Int.toNat_natCast, Nat.and_one_is_mod,
    Nat.shiftRight_eq_div_pow]
  rfl

/-- SEND_COMMAND and SEND_DATA alike: a completed one has an operand within type. -/
theorem sendByte_dataLevels {rs : Bool} {b : Int} {s t : State} (h : sendByte rs b s = .next t) :
    t.lines.dataLevels = (List.range 8).map (fun k => (b.toNat >>> k) &&& 1 == 1) := by
  obtain ⟨inType, -, -, rfl⟩ := (sendByte_next_iff rs b s t).1 h
  have nonneg : 0 ≤ b := by simp_all [byteInType]
  calc (frameLines rs (byteOf b)).dataLevels
    _ = (List.range 8).map (bitLevel (byteOf b)) := frameLines_dataLevels rs (byteOf b)
    _ = (List.range 8).map (fun k => (b.toNat >>> k) &&& 1 == 1) :=
      List.map_congr_left fun _ hk => bitLevel_byteOf nonneg (List.mem_range.1 hk)

/-- Settles O11: `bitLevel` is the shift and mask of R77. -/
theorem dataLinesCarryTheShiftedBits : Obligations.DataLinesCarryTheShiftedBits :=
  ⟨State.frame_dataLevels, fun _ _ _ h => h.elim sendByte_dataLevels sendByte_dataLevels⟩

/-! ## Admission at host idle -/

section

variable {s : State}

theorem State.hostIdle.hasControl (idle : s.hostIdle) : s.hostHasControl = true :=
  s.hostHasControl_iff.2 (.inl idle.1)

theorem State.hostIdle.pollable (idle : s.hostIdle) (d : Device) : s.pollable d :=
  ⟨idle.2, by simp [idle.1]⟩

theorem whenControl_of_hasControl (control : s.hostHasControl = true) (k : Result) :
    whenControl s k = k := if_pos control

theorem whenIdle_of_hostIdle (idle : s.hostIdle) (k : Result) : whenIdle s k = k := by
  obtain ⟨inactive, closed⟩ := idle
  simp [whenIdle, inactive, closed]

theorem whenPoll_of_pollable {d : Device} (pollable : s.pollable d) (k : Result) :
    whenPoll s d k = k := by
  obtain ⟨closed, current⟩ := pollable
  simpa [whenPoll, closed] using fun active other => absurd (current active) other

theorem whenConstruction_of_constructible (constructible : s.constructible) (k : Result) :
    whenConstruction s k = k := by
  obtain ⟨idle, outside⟩ := constructible
  simp [whenConstruction, whenIdle_of_hostIdle idle, outside]

theorem whenConstruction_of_inQuit (idle : s.hostIdle) (inside : s.inQuit = true) (k : Result) :
    whenConstruction s k = .refused .insideQuit :=
  (whenIdle_of_hostIdle idle _).trans (if_pos inside)

/-! ## The checks of an instance -/

theorem whenBtn_outOfRange {i : Nat} (h : s.btns.length ≤ i) (k : Btn → Result) :
    whenBtn s i k = .refused (.indexOutOfRange (.btn i)) := by
  simp [whenBtn, List.getElem?_eq_none h]

theorem whenBtn_absent {i : Nat} {b : Btn} (h : s.btns[i]? = some b) (absent : b.present = false)
    (k : Btn → Result) : whenBtn s i k = .refused (.deviceAbsent (.btn i)) := by
  simp [whenBtn, h, absent]

theorem whenBtnFree_outOfRange {i : Nat} (h : s.btns.length ≤ i) (k : Result) :
    whenBtnFree s i k = .refused (.indexOutOfRange (.btn i)) := by
  simp [whenBtnFree, List.getElem?_eq_none h]

theorem whenBtnFree_present {i : Nat} {b : Btn} (h : s.btns[i]? = some b)
    (present : b.present = true) (k : Result) :
    whenBtnFree s i k = .refused (.alreadyPresent (.btn i)) := by
  simp [whenBtnFree, h, present]

theorem whenPot_outOfRange {j : Nat} (h : s.pots.length ≤ j) (k : Pot → Result) :
    whenPot s j k = .refused (.indexOutOfRange (.pot j)) := by
  simp [whenPot, List.getElem?_eq_none h]

theorem whenPot_absent {j : Nat} {p : Pot} (h : s.pots[j]? = some p) (absent : p.present = false)
    (k : Pot → Result) : whenPot s j k = .refused (.deviceAbsent (.pot j)) := by
  simp [whenPot, h, absent]

theorem whenPotFree_outOfRange {j : Nat} (h : s.pots.length ≤ j) (k : Result) :
    whenPotFree s j k = .refused (.indexOutOfRange (.pot j)) := by
  simp [whenPotFree, List.getElem?_eq_none h]

theorem whenPotFree_present {j : Nat} {p : Pot} (h : s.pots[j]? = some p)
    (present : p.present = true) (k : Result) :
    whenPotFree s j k = .refused (.alreadyPresent (.pot j)) := by
  simp [whenPotFree, h, present]

/-! ## The operations on devices -/

/-- Every construction presented during a QUIT is refused, whatever its operands (R89). -/
theorem exec_construction_inQuit (idle : s.hostIdle) (inside : s.inQuit = true) (i : Instr)
    (construction : isConstruction i = true) : exec i s = .refused .insideQuit := by
  cases i with
  | lcdInit | btnInit | potInit => exact whenConstruction_of_inQuit idle inside _
  | _ => cases construction

/-- A button construction is decided by the index's check alone. -/
theorem exec_btnInit_of_whenBtnFree {i : Nat} {r : Refusal} (constructible : s.constructible)
    (check : ∀ k, whenBtnFree s i k = .refused r) (pin : Pin) (cb : Bool)
    (interval : Option Duration) : exec (.btnInit i pin cb interval) s = .refused r :=
  (whenConstruction_of_constructible constructible _).trans (check _)

theorem exec_potInit_of_whenPotFree {j : Nat} {r : Refusal} (constructible : s.constructible)
    (check : ∀ k, whenPotFree s j k = .refused r) (pin : Pin) (cb : Bool) :
    exec (.potInit j pin cb) s = .refused r :=
  (whenConstruction_of_constructible constructible _).trans (check _)

theorem exec_btnPoll_of_whenBtn {i : Nat} {r : Refusal} (idle : s.hostIdle)
    (check : ∀ k, whenBtn s i k = .refused r) : exec (.btnPoll i) s = .refused r :=
  (whenPoll_of_pollable (idle.pollable _) _).trans (check _)

/-- Both operations on a constructed potentiometer make the same check of it. -/
theorem exec_pot_of_whenPot {j : Nat} {r : Refusal} (idle : s.hostIdle)
    (check : ∀ k, whenPot s j k = .refused r) :
    exec (.potPoll j) s = .refused r ∧ exec (.potValue j) s = .refused r :=
  ⟨(whenPoll_of_pollable (idle.pollable _) _).trans (check _),
    (whenControl_of_hasControl idle.hasControl _).trans (check _)⟩

end

/-- Settles O55: at host idle the check of the instance gives the reason, and for a construction
the QUIT in progress comes before it. -/
theorem lifecycleRefusals : Obligations.LifecycleRefusals := by
  intro s k pin cb interval pins text idle
  refine ⟨fun inside i hi => ?_, fun outside => ?_, ?_, ?_, ?_, ?_⟩
  · exact exec_construction_inQuit idle inside i (by fin_cases hi <;> rfl)
  · have constructible : s.constructible := ⟨idle, outside⟩
    refine ⟨fun present => ?_, fun b hb present => ?_, fun p hp present => ?_, fun beyond => ?_,
      fun beyond => ?_⟩
    · exact (whenConstruction_of_constructible constructible _).trans (if_pos present)
    · exact exec_btnInit_of_whenBtnFree constructible (whenBtnFree_present hb present) pin cb interval
    · exact exec_potInit_of_whenPotFree constructible (whenPotFree_present hp present) pin cb
    · exact exec_btnInit_of_whenBtnFree constructible (whenBtnFree_outOfRange beyond) pin cb interval
    · exact exec_potInit_of_whenPotFree constructible (whenPotFree_outOfRange beyond) pin cb
  · exact fun b hb absent => exec_btnPoll_of_whenBtn idle (whenBtn_absent hb absent)
  · exact fun p hp absent => exec_pot_of_whenPot idle (whenPot_absent hp absent)
  · exact fun beyond => exec_btnPoll_of_whenBtn idle (whenBtn_outOfRange beyond)
  · exact fun beyond => exec_pot_of_whenPot idle (whenPot_outOfRange beyond)

end Sys2Proof.Machine

/-! PROOFS. The encoding (O1 to O5), the FRAME9 rows (O16, O17), and the operands outside their
type (O54). -/

namespace Sys2Proof.Machine

/-! ## The words of format FRAME9 -/

theorem frameWord_false (b : Byte) : frameWord false b = b.setWidth 9 :=
  BitVec.eq_of_toNat_eq (by simp [frameWord, -BitVec.toNat_setWidth, BitVec.toNat_setWidth_of_le])

theorem frameWord_true (b : Byte) : frameWord true b = 0x100 ||| b.setWidth 9 :=
  BitVec.eq_of_toNat_eq (by
    simp [frameWord, BitVec.toNat_cons, -BitVec.toNat_setWidth, BitVec.toNat_setWidth_of_le])

/-- A word with RS high is the data frame of its low byte (spec/30_encoding.md R100). -/
theorem frameWord_true_setWidth {w : BitVec 9} (high : w.getLsbD 8 = true) :
    frameWord true (w.setWidth 8) = w := by
  have msb : w.msb = true := w.msb_eq_getLsbD_last.trans high
  simpa [frameWord, msb] using w.cons_msb_setWidth

theorem decodeFrame_frameWord_true (d : Byte) :
    decodeFrame (frameWord true d) = .ok (.frameData d) := by
  simp [decodeFrame, frameWord, BitVec.getLsbD_cons]

/-! ## Decoding what was encoded -/

theorem decode_encode (i : Instr) : decode (encode i) = .ok i := by
  cases i with
  | lcdInit pins text => exact (decodeLcdInit_ok_iff ..).2 ⟨pins, text, rfl, rfl⟩
  | btnInit k pin cb d => exact (decodeBtnInit_ok_iff ..).2 ⟨k, pin, cb, d, rfl, rfl⟩
  | frameData d => exact decodeFrame_frameWord_true d
  | _ => rfl

/-- Settles O1. -/
theorem decodeOfEncodeIsTheOperation : Obligations.DecodeOfEncodeIsTheOperation := decode_encode

/-! ## Encoding what was decoded -/

/-- The operands of format HOSTOP are read in the order in which the encoder writes them. -/
theorem encode_of_decodeOp {sel : BitVec 8} {args : List Operand} {i : Instr}
    (h : decodeOp sel args = .ok i) : encode i = .op sel args := by
  unfold decodeOp at h
  split at h
  case h_28 => cases h
  all_goals
    rename_i hsel
    rw [(BitVec.toNat_eq_nat.1 hsel).2]
  case h_1 =>
    obtain ⟨pins, text, rfl, rfl⟩ := (decodeLcdInit_ok_iff ..).1 h
    rfl
  case h_2 | h_3 =>
    obtain ⟨b, rfl, rfl⟩ := (decodeByteOp_ok_iff ..).1 h
    rfl
  case h_4 =>
    obtain ⟨cs, rfl, rfl⟩ := (decodeWrite_ok_iff ..).1 h
    rfl
  case h_5 =>
    obtain ⟨n, rfl, rfl⟩ := (decodeMove_ok_iff ..).1 h
    rfl
  case h_20 =>
    obtain ⟨k, pin, cb, d, rfl, rfl⟩ := (decodeBtnInit_ok_iff ..).1 h
    rfl
  case h_21 | h_23 | h_24 =>
    obtain ⟨k, rfl, rfl⟩ := (decodeIndexed_ok_iff ..).1 h
    rfl
  case h_22 =>
    obtain ⟨j, pin, cb, rfl, rfl⟩ := (decodePotInit_ok_iff ..).1 h
    rfl
  all_goals
    obtain ⟨rfl, rfl⟩ := (decodeNullary_ok_iff ..).1 h
    rfl

theorem encode_of_decodeFrame {w : BitVec 9} {i : Instr} (h : decodeFrame w = .ok i) :
    encode i = .frame w := by
  unfold decodeFrame at h
  split at h
  next high =>
    cases h
    exact congrArg HostWord.frame (frameWord_true_setWidth high)
  next =>
    split at h
    case h_12 => cases h
    all_goals
      next hw =>
      cases h
      rw [(BitVec.toNat_eq_nat.1 hw).2]
      rfl

/-- Settles O2. -/
theorem encodeOfDecodeIsTheWord : Obligations.EncodeOfDecodeIsTheWord := by
  intro w i h
  cases w with
  | op sel args => exact encode_of_decodeOp h
  | frame w => exact encode_of_decodeFrame h

/-! ## The table words -/

/-- A row whose table word is the encoding of `i` decodes to `i`. -/
theorem decodeTableWord_of_encode {nbits w : Nat} {i : Instr}
    (h : tableWord nbits w = some (encode i)) : decodeTableWord nbits w = some i := by
  simp [decodeTableWord, h, decode_encode]

/-- Settles O3: eight of the words are encodings of their rows. -/
theorem tableWordsDecodeToTheirRows : Obligations.TableWordsDecodeToTheirRows :=
  ⟨decodeTableWord_of_encode rfl, decodeTableWord_of_encode rfl, decodeTableWord_of_encode rfl,
    decodeTableWord_of_encode rfl, decodeTableWord_of_encode rfl, rfl,
    decodeTableWord_of_encode rfl, decodeTableWord_of_encode rfl, decodeTableWord_of_encode rfl⟩

/-! ## The words that do not decode -/

theorem decodeOp_unassigned {sel : BitVec 8} (unassigned : 0x1B ≤ sel.toNat)
    (args : List Operand) : decodeOp sel args = .error (.unassignedSelector sel) := by
  unfold decodeOp
  split
  case h_28 => rfl
  all_goals omega

theorem performWord_of_error (s : State) {w : HostWord} {e : DecodeError}
    (fails : decode w = .error e) : performWord w s = .refused (.undecodable e) := by
  simp [performWord, fails]

/-- Settles O4: the step performs the presented word, which has no operation. -/
theorem unassignedSelectorsAreRefused : Obligations.UnassignedSelectorsAreRefused := by
  intro sel args rest s unassigned control presented
  rw [step_of_word s _ rest control presented]
  exact performWord_of_error _ (decodeOp_unassigned unassigned args)

theorem decodeFrame_unnamed {w : BitVec 9} (low : w.toNat < 0x100)
    (unnamed : w.toNat ∉
      [0x01, 0x02, 0x06, 0x08, 0x0C, 0x0F, 0x10, 0x14, 0x18, 0x1C, 0x38]) :
    decodeFrame w = .error (.unnamedFrame w) := by
  have rsLow : ¬ w.getLsbD 8 = true := ne_true_of_eq_false (Nat.testBit_lt_two_pow low)
  rw [decodeFrame, if_neg rsLow]
  split
  case h_12 => rfl
  all_goals
    next hw => simp [hw] at unnamed

/-- Settles O5. -/
theorem frameWordsDecodeByRegisterSelect : Obligations.FrameWordsDecodeByRegisterSelect := by
  refine ⟨fun c => ?_, fun w => decodeFrame_unnamed⟩
  rw [← frameWord_true]
  exact decodeFrame_frameWord_true c

/-! ## The FRAME9 rows -/

theorem sendFrame_present {s : State} (control : s.hostHasControl = true)
    (present : s.lcdPresent = true) (rs : Bool) (b : Byte) :
    sendFrame rs b s
      = .next { s.afterFrames [(rs, b)] with replies := s.replies ++ [.done] } :=
  (sendFrame_next_iff ..).2 ⟨control, present, rfl⟩

/-- Settles O16: the row's byte is that of its opcode, and its meaning is the frame of that byte. -/
theorem commandFrameRowsSendTheirByte : Obligations.CommandFrameRowsSendTheirByte := by
  intro i b row
  have meaning : encode i = .frame (frameWord false b) ∧ exec i = sendFrame false b := by
    fin_cases row <;> exact ⟨rfl, rfl⟩
  obtain ⟨word, sends⟩ := meaning
  rw [word, frameWord_false, sends]
  exact ⟨rfl, fun s control => ⟨fun present => sendFrame_present control present false b,
    fun absent => sendFrame_absent control absent false b⟩⟩

/-- Settles O17. -/
theorem dataFrameRowSendsItsByte : Obligations.DataFrameRowSendsItsByte :=
  fun d _ control => ⟨congrArg HostWord.frame (frameWord_true d),
    fun present => sendFrame_present control present true d,
    fun absent => sendFrame_absent control absent true d⟩

/-! ## Operands outside their type -/

theorem sendByte_outOfType {b : Int} (outside : b < 0 ∨ 255 < b) (rs : Bool) (s : State) :
    sendByte rs b s = .refused (.byteOutOfType b) := by
  have ill : ¬ byteInType b = true := by
    simp only [byteInType, Bool.and_eq_true, decide_eq_true_eq]
    omega
  exact if_neg ill

theorem textInType_of_mem {text : List Nat} {c : Nat} (mem : c ∈ text) (above : 255 < c) :
    ¬ textInType text = true := by
  simpa [textInType] using ⟨c, mem, above⟩

theorem whenBtnFree_free {s : State} {i : Nat} {b : Btn} (h : s.btns[i]? = some b)
    (absent : b.present = false) (k : Result) : whenBtnFree s i k = k := by
  simp [whenBtnFree, h, absent]

/-- Settles O54: each type check comes before any effect, the constructions' after their admission. -/
theorem operandsOutsideTheirTypeAreRefused : Obligations.OperandsOutsideTheirTypeAreRefused := by
  refine ⟨fun b s outside => ?_, fun text c s mem above => ?_,
    fun pins text c s constructible absent mem above => ?_,
    fun i pin cb d b s constructible hb absent negative => ?_⟩
  · exact ⟨sendByte_outOfType outside false s, sendByte_outOfType outside true s⟩
  · exact if_neg (textInType_of_mem mem above)
  · have ill : ¬ textInType (initialText (some text)) = true := textInType_of_mem mem above
    simp [exec, execLcdInit, whenConstruction_of_constructible constructible, absent, ill]
  · have ill : ¬ intervalInType (intervalOf (some d)) = true := by
      exact fun inType => absurd (of_decide_eq_true inType) (not_le.2 negative)
    simp [exec, execBtnInit, whenConstruction_of_constructible constructible,
      whenBtnFree_free hb absent, ill]

end Sys2Proof.Machine

/-! PROOFS. The lines change only through whole frames (O59), and the frames of SEND_COMMAND and
SEND_DATA (O12, O13). -/

namespace Sys2Proof.Machine

/-! ## Traces of whole frames -/

/-- Two traces of whole frames are one: no frame is cut where they meet. -/
theorem wellFramed_append {least : Duration} {es es' : List Entry}
    (h : wellFramed least es = true) (h' : wellFramed least es' = true) :
    wellFramed least (es ++ es') = true := by
  fun_induction wellFramed least es with
  | case1 => exact h'
  | case2 _ _ _ _ _ _ _ _ _ _ rest ih =>
    obtain ⟨hold, whole⟩ := Bool.and_eq_true_iff.1 h
    exact Bool.and_eq_true_iff.2 ⟨hold, ih whole⟩
  | case3 => cases h
  | case4 _ rest ih | case5 _ _ rest ih | case6 _ _ rest ih | case7 _ _ _ rest ih
  | case8 _ rest ih | case9 _ rest ih => exact ih h

theorem wellFramed_frameEntries {least tEh : Duration} (hold : least ≤ tEh) (rs : Bool) (b : Byte) :
    wellFramed least (frameEntries tEh rs b) = true := by
  simp [frameEntries, wellFramed, hold]

/-- The first nine entries write every line but `E`, so the levels before do not matter. -/
theorem Lines.replay_frameEntries (ls : Lines) (tEh : Duration) (rs : Bool) (b : Byte) :
    ls.replay (frameEntries tEh rs b) = frameLines rs b := rfl

/-- `t` is `s` after some entries that contain line writes in whole frames only, with its lines at
the levels those entries leave. -/
def ThroughFrames (s t : State) : Prop :=
  ∃ es, t.trace = s.trace ++ es ∧ wellFramed 4 es = true ∧ t.lines = s.lines.replay es

namespace ThroughFrames

variable {s t u : State}

theorem of_eq (trace : t.trace = s.trace) (lines : t.lines = s.lines) : ThroughFrames s t :=
  ⟨[], by simp [trace], rfl, lines⟩

theorem trans (h : ThroughFrames s u) (h' : ThroughFrames u t) : ThroughFrames s t := by
  obtain ⟨es, trace, whole, lines⟩ := h
  obtain ⟨es', trace', whole', lines'⟩ := h'
  refine ⟨es ++ es', by rw [trace', trace, List.append_assoc], wellFramed_append whole whole', ?_⟩
  rw [lines', lines, Lines.replay, Lines.replay, Lines.replay, List.foldl_append]

/-! ### Frames -/

theorem afterFrames (s : State) (ws : List (Bool × Byte)) (hold : 4 ≤ s.cfg.tEh) :
    ThroughFrames s (s.afterFrames ws) := by
  induction ws generalizing s with
  | nil => exact .of_eq (by simp) rfl
  | cons w ws ih =>
    have first : ThroughFrames s (s.afterFrames [w]) :=
      ⟨frameEntries s.cfg.tEh w.1 w.2, by simp, wellFramed_frameEntries hold w.1 w.2,
        (Lines.replay_frameEntries ..).symm⟩
    rw [← List.singleton_append, ← State.afterFrames_append]
    exact first.trans (ih _ hold)

/-! ### Entries that write no line -/

theorem record_cfgs (s : State) (qs : List Pin) :
    ThroughFrames s (s.record (qs.map (fun q => .cfg .output q none))) := by
  induction qs generalizing s with
  | nil => exact .of_eq (by simp) rfl
  | cons q qs ih =>
    have first : ThroughFrames s (s.record [.cfg .output q none]) := ⟨_, rfl, rfl, rfl⟩
    have rest := first.trans (ih _)
    simpa [State.record] using rest

theorem configured (s : State) (k : LineKind) (p : Pin) (opt : Option Pull) :
    ThroughFrames s (s.configured k p opt) := ⟨[.cfg k p opt], rfl, rfl, rfl⟩

theorem lineGet (s : State) (k : Nat) : ThroughFrames s (s.lineGet k) :=
  ⟨[.get k (s.levelAnswer k)], by simp, rfl, by simp [Lines.replay, Lines.apply]⟩

theorem adcRead (s : State) (j : Nat) : ThroughFrames s (s.adcRead j) :=
  ⟨[.adc j (s.sampleAnswer j)], by simp, rfl, by simp [Lines.replay, Lines.apply]⟩

theorem holdButton (s : State) (d : Duration) : ThroughFrames s (s.holdButton d) :=
  ⟨[.holdAtLeast d], rfl, rfl, rfl⟩

theorem openWindow (s : State) (p : Paused) : ThroughFrames s (s.openWindow p) :=
  ⟨[.cb p.device], rfl, rfl, rfl⟩

theorem finishPoll (s : State) : ThroughFrames s s.finishPoll := .of_eq (by simp) (by simp)

theorem pollFault (s : State) (d : Device) : ThroughFrames s (s.pollFault d) :=
  .of_eq (by simp) (by simp)

/-! ### The devices and the sequencer -/

theorem btnInit (s : State) (k : Nat) (pin : Pin) (cb : Bool) (interval : Duration) :
    ThroughFrames s (s.btnInit k pin cb interval) := by
  have read := (configured s .input pin (some (s.cfg.pullOf k))).trans (.lineGet _ k)
  rcases s.btnInit_cases k pin cb interval with e | e | ⟨level, e⟩ <;> rw [e]
  · exact .of_eq rfl rfl
  · exact read.trans (.of_eq rfl rfl)
  · exact read.trans (.of_eq rfl rfl)

theorem potInit (s : State) (j : Nat) (pin : Pin) (cb : Bool) :
    ThroughFrames s (s.potInit j pin cb) := by
  have cfg := configured s .analog pin none
  rcases s.potInit_cases j pin cb with e | e | ⟨-, e⟩ | ⟨q, -, e⟩ <;> rw [e]
  · exact .of_eq rfl rfl
  · exact (cfg.trans (.adcRead _ j)).trans (.of_eq rfl rfl)
  · exact cfg.trans (.of_eq rfl rfl)
  · exact (cfg.trans (.adcRead _ j)).trans (.of_eq rfl rfl)

theorem btnPoll (s : State) (k : Nat) (b : Btn) : ThroughFrames s (s.btnPoll k b) := by
  have put (v : Bool) : ThroughFrames s ((s.lineGet k).putBtn k { b with pressed := v }) :=
    (lineGet s k).trans (.of_eq rfl rfl)
  rcases s.btnPoll_cases k b with e | ⟨-, -, e⟩ | e | e <;> rw [e]
  · exact (lineGet s k).trans (.pollFault _ _)
  · exact (put true).trans (.openWindow _ _)
  · exact (put true).trans (.finishPoll _)
  · exact ((put false).trans (.holdButton _ _)).trans (.finishPoll _)

theorem resume (s : State) (p : Paused) : ThroughFrames s (s.resume p) := by
  cases p with
  | btnPoll k => exact .finishPoll s
  | potPoll j q => exact (of_eq (t := s.storeLast j q) rfl rfl).trans (.finishPoll _)

theorem potValue (s : State) (j : Nat) : ThroughFrames s (s.potValue j) := by
  obtain ⟨r, e⟩ := s.potValue_cases j
  exact e ▸ (adcRead s j).trans (.of_eq rfl rfl)

theorem potPoll (s : State) (j : Nat) (p : Pot) : ThroughFrames s (s.potPoll j p) := by
  rcases s.potPoll_cases j p with e | ⟨q, -, -, -, e⟩ | ⟨q, -, e⟩ <;> rw [e]
  · exact (adcRead s j).trans (.pollFault _ _)
  · exact (adcRead s j).trans (.openWindow _ _)
  · exact (adcRead s j).trans (.resume _ (.potPoll j q))

theorem startRun (s : State) : ThroughFrames s s.startRun := by
  unfold State.startRun
  split <;> exact .of_eq rfl rfl

theorem passBoundary (s : State) : ThroughFrames s s.passBoundary := by
  unfold State.passBoundary
  simp only
  split <;> exact .of_eq rfl rfl

theorem closeWindow (s : State) (p : Paused) : ThroughFrames s (s.closeWindow p) := by
  have closed : ThroughFrames s (s.windowClosed p) := ⟨[.cbDone p.device], rfl, rfl, rfl⟩
  exact closed.trans (.resume _ p)

end ThroughFrames

/-! ## Every operation and every step -/

/-- Whatever an operation sends, it sends as frames; the operations of the devices write no line. -/
theorem Effect.throughFrames {s t : State} {i : Instr} (h : Effect s i t)
    (hold : 4 ≤ s.cfg.tEh) : ThroughFrames s t := by
  cases h with
  | lcd _ ws | teardown | quit => exact (ThroughFrames.afterFrames s _ hold).trans (.of_eq rfl rfl)
  | lcdInitFault _ _ qs => exact (ThroughFrames.record_cfgs s qs).trans (.of_eq rfl rfl)
  | lcdInitDone pins =>
    exact ((ThroughFrames.record_cfgs s pins).trans (.afterFrames _ _ hold)).trans (.of_eq rfl rfl)
  | btnInit k pin cb => exact .btnInit s k pin cb _
  | btnPoll k b => exact .btnPoll s k b
  | potInit j pin cb => exact .potInit s j pin cb
  | potValue j => exact .potValue s j
  | potPoll j p => exact .potPoll s j p
  | run => exact .startRun s

/-- Settles O59: an operation by its effect; the end of a callback or of a pass writes no line. -/
theorem linesChangeOnlyThroughWholeFrames : Obligations.LinesChangeOnlyThroughWholeFrames := by
  intro s t h noReset ⟨hold, _⟩
  obtain ⟨rest, rfl | ⟨i, he⟩ | ⟨p, -, rfl⟩ | ⟨-, rfl⟩⟩ := step_cases_of_no_reset h noReset
  · exact ThroughFrames.of_eq rfl rfl
  · exact he.throughFrames hold
  · exact ThroughFrames.closeWindow { s with pending := rest } p
  · exact ThroughFrames.passBoundary { s with pending := rest }

/-! ## SEND_COMMAND and SEND_DATA -/

theorem byteInType_of_bounds {b : Int} (nonneg : 0 ≤ b) (le : b ≤ 255) : byteInType b = true := by
  simp [byteInType, nonneg, le]

/-- Either operation sends its one frame or, without an LCD, is refused. -/
theorem sendByte_of_inType {b : Int} {s : State} (inType : byteInType b = true)
    (control : s.hostHasControl = true) (rs : Bool) :
    (s.lcdPresent = true → sendByte rs b s = .next
        { s.afterFrames [(rs, byteOf b)] with replies := s.replies ++ [.done] })
      ∧ (s.lcdPresent = false → sendByte rs b s = .refused .lcdAbsent) :=
  ⟨fun present => (if_pos inType).trans (sendFrame_present control present rs (byteOf b)),
    fun absent => sendByte_absent control absent rs inType⟩

/-- Settles O12: SEND_COMMAND is `sendByte` with RS low. -/
theorem sendCommandSendsOneCommandFrame : Obligations.SendCommandSendsOneCommandFrame :=
  fun _ _ nonneg le control =>
    ⟨rfl, sendByte_of_inType (byteInType_of_bounds nonneg le) control false⟩

/-- Settles O13: SEND_DATA is `sendByte` with RS high. -/
theorem sendDataSendsOneDataFrame : Obligations.SendDataSendsOneDataFrame :=
  fun _ _ nonneg le control =>
    ⟨rfl, sendByte_of_inType (byteInType_of_bounds nonneg le) control true⟩

end Sys2Proof.Machine

/-! PROOFS. The operations on the cursor (O18 to O21), each from its closed form. -/

namespace Sys2Proof.Machine

theorem textInType_of_forall_le {text : List Nat} (codes : ∀ c ∈ text, c ≤ 255) :
    textInType text = true := by
  simpa [textInType] using codes

/-- Settles O18: the characters' frames and the count are those of `State.writeText_eq`. -/
theorem writeSendsEveryCharacterAndCounts : Obligations.WriteSendsEveryCharacterAndCounts :=
  fun text s codes control present =>
    ⟨rfl, (execWrite_next_iff text s _).2
      ⟨textInType_of_forall_le codes, control, present, rfl⟩⟩

/-- The sign chooses the frame; for 0 the one it would choose is sent no times
(spec/41_lcd_cursor.md R163). -/
theorem opcodeByte_moveOpcode (n : Int) :
    opcodeByte (moveOpcode n) = if 0 < n then 0x14 else 0x10 :=
  apply_ite opcodeByte (0 < n) .moveRight .moveLeft

/-- Settles O19, from the closed form of MOVE_CURSOR. -/
theorem moveCursorSendsOneFrameACell : Obligations.MoveCursorSendsOneFrameACell := by
  intro n s control present
  rw [← opcodeByte_moveOpcode]
  exact ⟨rfl, (execMoveCursor_next_iff n s _).2 ⟨control, present, rfl⟩⟩

/-- In advance mode the moves end at 41, unless the counter is there or beyond and none is sent
(spec/41_lcd_cursor.md R167, R168). -/
theorem cursor_add_newLineMoves (cursor : Int) :
    cursor + newLineMoves cursor = if cursor < 41 then 41 else cursor := by
  unfold newLineMoves rowCells
  split <;> omega

theorem State.newLine_cursorPosition (s : State) :
    s.newLine.cursorPosition
      = if s.cfg.newlineCpMode = .advance ∧ s.cursorPosition < 41 then 41
        else s.cursorPosition := by
  rw [s.newLine_eq]
  cases s.cfg.newlineCpMode with
  | unchanged => simp
  | advance => simp [cursor_add_newLineMoves]

/-- NEW_LINE sends its moves and may write the counter; the rest of the state is kept. -/
theorem State.newLine_eq_afterFrames (s : State) :
    s.newLine = { s.afterFrames (List.replicate (41 - s.cursorPosition).toNat (false, 0x14)) with
      cursorPosition := s.newLine.cursorPosition } := by
  conv_rhs => rw [s.newLine_eq]
  exact s.newLine_eq

/-- Settles O20: the frames are the same in both modes, which differ in the counter only. -/
theorem newLineMovesToTheEndOfTheRow : Obligations.NewLineMovesToTheEndOfTheRow := by
  refine ⟨rfl, fun s control present => ?_⟩
  rw [← s.newLine_cursorPosition]
  exact (execNewLine_next_iff s _).2
    ⟨control, present, congrArg (·.report .done) s.newLine_eq_afterFrames.symm⟩

/-- Settles O21: RD_CURSOR does no more than report. -/
theorem readCursorReportsTheCounter : Obligations.ReadCursorReportsTheCounter :=
  ⟨rfl, fun s control present => (execRdCursor_next_iff s _).2 ⟨control, present, rfl⟩⟩

end Sys2Proof.Machine

/-! PROOFS. The LCD operations of one opcode (O14), and CLEAR and HOME (O15). -/

namespace Sys2Proof.Machine

/-- Settles O14: each operation is its opcode's command frame, with the byte of its row. -/
theorem singleOpcodeOperationsSendTheirByte : Obligations.SingleOpcodeOperationsSendTheirByte := by
  intro i sel b row
  have meaning : encode i = .op sel [] ∧ exec i = sendFrame false b := by
    fin_cases row <;> exact ⟨rfl, rfl⟩
  obtain ⟨word, sends⟩ := meaning
  exact ⟨word, fun s control present =>
    (congrFun sends s).trans (sendFrame_present control present false b)⟩

theorem sendHome_present {s : State} (control : s.hostHasControl = true)
    (present : s.lcdPresent = true) (op : OpcodeName) :
    sendHome op s = .next { s.afterFrames [(false, opcodeByte op)] with
      cursorPosition := 1, replies := s.replies ++ [.done] } :=
  (sendHome_next_iff ..).2 ⟨control, present, rfl⟩

/-- Settles O15: both are `sendHome`, each with its own opcode. -/
theorem clearAndHomeResetTheCounter : Obligations.ClearAndHomeResetTheCounter :=
  fun _ control present =>
    ⟨⟨rfl, sendHome_present control present .clearDisplay⟩,
      rfl, sendHome_present control present .moveHome⟩

end Sys2Proof.Machine

/-! PROOFS. LCD_INIT and TEARDOWN (O23 to O26), and the frame sequence read off the falling edges
of `E`. -/

namespace Sys2Proof.Machine

/-! ## LCD_INIT and TEARDOWN as next states -/

/-- Settles O26. -/
theorem teardownClearsThenTurnsOff : Obligations.TeardownClearsThenTurnsOff :=
  ⟨rfl, fun s => ⟨fun inside => (execTeardown_next_iff s _).2 ⟨inside, rfl⟩,
    fun outside => if_neg (by simp [outside])⟩⟩

section

variable {s : State} {pins : List Pin} {text : Option (List Nat)}

theorem exec_lcdInit_admitted (constructible : s.constructible) (absent : s.lcdPresent = false)
    (codes : ∀ c ∈ text.getD [], c ≤ 255) (pins : List Pin) :
    exec (.lcdInit pins text) s = .next (s.lcdInit pins (text.getD [])) :=
  (execLcdInit_next_iff pins text s _).2
    ⟨constructible, absent, textInType_of_forall_le codes, rfl⟩

theorem State.lcdInit_of_length_ne (s : State) (length : pins.length ≠ 10) (cs : List Nat) :
    s.lcdInit pins cs = s.raise (.configFault .lcd .length) := if_pos length

/-- The pins before the first rejected one were configured, and stay so (decision D19). -/
theorem State.lcdInit_rejected (s : State) {before after : List Pin} {p : Pin}
    (length : (before ++ p :: after).length = 10)
    (accepted : ∀ q ∈ before, s.cfg.pinOk .output q = true)
    (rejected : s.cfg.pinOk .output p = false) (cs : List Nat) :
    s.lcdInit (before ++ p :: after) cs
      = (s.record (before.map (fun q => .cfg .output q none))).raise
          (.configFault .lcd (.pin p)) := by
  rw [State.lcdInit, if_neg (not_not.2 length), assignLines_pins _ length,
    s.configureOutputs_rejected before p after accepted rejected]

end

/-- Settles O25: each abort comes before the construction. -/
theorem lcdInitConfigFaultHasNoPartialEffect :
    Obligations.LcdInitConfigFaultHasNoPartialEffect := by
  intro pins text s constructible absent codes
  rw [exec_lcdInit_admitted constructible absent codes]
  refine ⟨fun length => ?_, fun before after p length split accepted rejected => ?_⟩
  · exact congrArg _ (s.lcdInit_of_length_ne length _)
  · subst split
    exact congrArg _ (s.lcdInit_rejected length accepted rejected _)

theorem optional_eq_elim {α : Type} (f : α → Operand) (o : Option α) :
    optional f o = o.elim .absent f := by
  cases o <;> rfl

/-- Settles O23, from the closed form of an accepted LCD_INIT; the positions of the pins are by
O27. -/
theorem lcdInitConstructsTheLcd : Obligations.LcdInitConstructsTheLcd := by
  intro pins text s constructible absent length codes accepted
  have constructs := exec_lcdInit_admitted constructible absent codes pins
  rw [s.lcdInit_accepted pins _ length accepted] at constructs
  refine ⟨by rw [encode, optional_eq_elim], constructs, fun t h => ?_⟩
  have present : t.lcdPresent = true := by
    cases constructs.symm.trans h
    rfl
  obtain ⟨-, -, positions⟩ := lcdPinsAreRecordedAndFixed.1 pins text s t h present
  exact positions

/-! ## The frame sequence of a trace -/

theorem frameLines_word (rs : Bool) (b : Byte) : (frameLines rs b).word = frameWord rs b := by
  have data : BitVec.ofBoolListBE [b.getLsbD 7, b.getLsbD 6, b.getLsbD 5, b.getLsbD 4, b.getLsbD 3,
      b.getLsbD 2, b.getLsbD 1, b.getLsbD 0] = b := by
    refine BitVec.eq_of_getLsbD_eq fun k hk => (BitVec.getLsbD_ofBoolListBE ..).trans ?_
    change k < 8 at hk
    interval_cases k <;> rfl
  exact congrArg (BitVec.cons rs) data

section

variable {ls : Lines}

/-- Configuring pins moves no line. -/
theorem frameSequence_cfgs (pins : List Pin) (rest : List Entry) :
    frameSequence ls (pins.map (fun p => .cfg .output p none) ++ rest) = frameSequence ls rest := by
  induction pins with
  | nil => rfl
  | cons p pins ih => simpa [frameSequence, Lines.apply] using ih

/-- `E` falls once in a frame, as its last entry, when the other lines hold the frame's word
(spec/40_lcd_frame.md R141). -/
theorem frameSequence_frameEntries (low : ls.e = false) (tEh : Duration) (rs : Bool) (b : Byte)
    (rest : List Entry) :
    frameSequence ls (frameEntries tEh rs b ++ rest)
      = frameWord rs b :: frameSequence (frameLines rs b) rest := by
  calc frameSequence ls (frameEntries tEh rs b ++ rest)
    _ = frameSequence { frameLines rs b with e := true } (.set .e false :: rest) := by
      cases ls
      cases low
      rfl
    _ = (frameLines rs b).word :: frameSequence (frameLines rs b) rest := rfl
    _ = frameWord rs b :: frameSequence (frameLines rs b) rest := by rw [frameLines_word]

/-- From `E` low, the panel latches exactly the frames sent (spec/00_scope.md R17). -/
theorem frameSequence_flatMap_frameEntries (low : ls.e = false) (tEh : Duration)
    (ws : List (Bool × Byte)) :
    frameSequence ls (ws.flatMap (fun w => frameEntries tEh w.1 w.2))
      = ws.map (fun w => frameWord w.1 w.2) := by
  induction ws generalizing ls with
  | nil => rfl
  | cons w ws ih =>
    rw [List.flatMap_cons, frameSequence_frameEntries low, ih rfl, List.map_cons]

end

/-- The data frame of a character code is `0x100 | code` (spec/30_encoding.md R111). -/
theorem frameWord_true_charByte {c : Nat} (code : c ≤ 255) :
    frameWord true (charByte c) = BitVec.ofNat 9 (0x100 + c) := by
  have disjoint : 0x100 + c = 0x100 ||| c := Nat.two_pow_add_eq_or_of_lt (i := 8) (by omega) 1
  have byte : (charByte c).setWidth 9 = BitVec.ofNat 9 c :=
    BitVec.setWidth_ofNat_of_le_of_lt (by decide) (by omega)
  rw [frameWord_true, byte, disjoint]
  exact BitVec.ofNat_or.symm

/-- Settles O24, from O23: the `Cfg` entries are no frames, and each frame after them is latched
once. -/
theorem lcdInitFrameSequence : Obligations.LcdInitFrameSequence := by
  intro pins text s constructible absent length codes accepted low
  obtain ⟨-, constructs, -⟩ :=
    lcdInitConstructsTheLcd pins text s constructible absent length codes accepted
  refine ⟨_, _, constructs, List.append_assoc _ _ _, ?_⟩
  rw [frameSequence_cfgs, frameSequence_flatMap_frameEntries low, List.map_append, List.map_map]
  exact congrArg _ (List.map_congr_left fun c mem => frameWord_true_charByte (codes c mem))

end Sys2Proof.Machine

/-! PROOFS. The buttons (O29, O31 to O33), and BTN_INIT and POT_INIT ended by a fault (O30). -/

namespace Sys2Proof.Machine

section

variable {s t : State} {i j : Nat} {b : Btn} {p : Pot} {pin : Pin}

/-! ## One read, and a read after a successful `Configure` -/

theorem State.lineGet_eq (s : State) (i : Nat) :
    s.lineGet i = { s.takeLevel with trace := s.trace ++ [.get i (s.levelAnswer i)] } := by
  rw [State.lineGet, State.record, State.takeLevel_trace]

theorem State.adcRead_eq (s : State) (j : Nat) :
    s.adcRead j = { s.takeSample with trace := s.trace ++ [.adc j (s.sampleAnswer j)] } := by
  rw [State.adcRead, State.record, State.takeSample_trace]

theorem State.takeLevel_record (s : State) (es : List Entry) :
    (s.record es).takeLevel = s.takeLevel.record es := by
  rcases hl : s.levels with - | ⟨v, rest⟩ <;> simp [State.takeLevel, State.record, hl]

theorem State.takeSample_record (s : State) (es : List Entry) :
    (s.record es).takeSample = s.takeSample.record es := by
  rcases hl : s.samples with - | ⟨v, rest⟩ <;> simp [State.takeSample, State.record, hl]

theorem State.configured_lineGet (s : State) (k : LineKind) (pin : Pin) (opt : Option Pull)
    (i : Nat) :
    (s.configured k pin opt).lineGet i
      = { s.takeLevel with
          trace := s.trace ++ [.cfg k pin opt, .get i (s.levelAnswer i)] } := by
  rw [State.lineGet_eq, State.configured, State.takeLevel_record, State.record_trace,
    List.append_assoc]
  rfl

theorem State.configured_adcRead (s : State) (k : LineKind) (pin : Pin) (opt : Option Pull)
    (j : Nat) :
    (s.configured k pin opt).adcRead j
      = { s.takeSample with
          trace := s.trace ++ [.cfg k pin opt, .adc j (s.sampleAnswer j)] } := by
  rw [State.adcRead_eq, State.configured, State.takeSample_record, State.record_trace,
    List.append_assoc]
  rfl

/-! ## BTN_INIT and POT_INIT -/

theorem exec_btnInit_admitted (constructible : s.constructible) (atIndex : s.btns[i]? = some b)
    (absent : b.present = false) {interval : Option Duration} (inType : 0 ≤ interval.getD 100)
    (pin : Pin) (cb : Bool) :
    exec (.btnInit i pin cb interval) s = .next (s.btnInit i pin cb (interval.getD 100)) :=
  (execBtnInit_next_iff i pin cb interval s _).2
    ⟨constructible, b, atIndex, absent, decide_eq_true inType, rfl⟩

theorem exec_potInit_admitted (constructible : s.constructible) (atIndex : s.pots[j]? = some p)
    (absent : p.present = false) (pin : Pin) (cb : Bool) :
    exec (.potInit j pin cb) s = .next (s.potInit j pin cb) :=
  (execPotInit_next_iff j pin cb s _).2 ⟨constructible, p, atIndex, absent, rfl⟩

theorem State.btnInit_rejected (rejected : s.cfg.pinOk .input pin = false) (i : Nat) (cb : Bool)
    (d : Duration) :
    s.btnInit i pin cb d = s.raise (.configFault (.btn i) (.pin pin)) :=
  if_neg (ne_true_of_eq_false rejected)

theorem State.potInit_rejected (rejected : s.cfg.pinOk .analog pin = false) (j : Nat) (cb : Bool) :
    s.potInit j pin cb = s.raise (.configFault (.pot j) (.pin pin)) :=
  if_neg (ne_true_of_eq_false rejected)

/-- An accepted pin is configured and the line read once (decision D25). -/
theorem State.btnInit_read_fails (accepted : s.cfg.pinOk .input pin = true)
    (answer : s.levelAnswer i = none) (cb : Bool) (d : Duration) :
    s.btnInit i pin cb d
      = ((s.configured .input pin (some (s.cfg.pullOf i))).lineGet i).raise
          (.pollFault (.btn i)) := by
  have answer' : (s.configured .input pin (some (s.cfg.pullOf i))).levelAnswer i = none := answer
  simp only [State.btnInit, if_pos accepted, answer']

theorem State.btnInit_read (accepted : s.cfg.pinOk .input pin = true) {level : Bool}
    (answer : s.levelAnswer i = some level) (cb : Bool) (d : Duration) :
    s.btnInit i pin cb d
      = ((((s.configured .input pin (some (s.cfg.pullOf i))).lineGet i).putBtn i
            { present := true, pin := pin, pressed := level, cb := cb, repeatInterval := d }
          ).register (.btn i)).report .done := by
  have answer' : (s.configured .input pin (some (s.cfg.pullOf i))).levelAnswer i = some level :=
    answer
  simp only [State.btnInit, if_pos accepted, answer']

theorem State.potInit_read_fails (accepted : s.cfg.pinOk .analog pin = true)
    (mode : s.cfg.potInitMode = .sample) (answer : s.sampleAnswer j = none) (cb : Bool) :
    s.potInit j pin cb
      = ((s.configured .analog pin none).adcRead j).raise (.pollFault (.pot j)) := by
  have answer' : (s.configured .analog pin none).sampleAnswer j = none := answer
  simp only [State.potInit, if_pos accepted, mode, answer']

/-! ## BTN_POLL -/

theorem exec_btnPoll_admitted (pollable : s.pollable (.btn i)) (atIndex : s.btns[i]? = some b)
    (present : b.present = true) : exec (.btnPoll i) s = .next (s.btnPoll i b) :=
  (execBtnPoll_next_iff i s _).2 ⟨pollable, b, atIndex, present, rfl⟩

/-- The state after the one read and the write of the latch. -/
theorem State.lineGet_putBtn (s : State) (i : Nat) (b : Btn) :
    (s.lineGet i).putBtn i b
      = { s.takeLevel with
          btns := s.btns.set i b
          trace := s.trace ++ [.get i (s.levelAnswer i)] } := by
  rw [State.putBtn, State.lineGet_btns, s.lineGet_eq]

theorem State.btnPoll_press (answer : s.levelAnswer i = some true) (released : b.pressed = false)
    (callback : b.cb = true) :
    s.btnPoll i b
      = ((s.lineGet i).putBtn i { b with pressed := true }).openWindow (.btnPoll i) := by
  have event : (pressEvent b.pressed true && b.cb) = true := by
    simp [pressEvent, released, callback]
  simp only [State.btnPoll, answer, State.btnHigh, if_pos event, pressedAfter]

theorem State.btnPoll_high_ends (answer : s.levelAnswer i = some true)
    (noWindow : b.pressed = true ∨ b.cb = false) :
    s.btnPoll i b = ((s.lineGet i).putBtn i { b with pressed := true }).finishPoll := by
  have noEvent : ¬ (pressEvent b.pressed true && b.cb) = true := by
    rcases noWindow with h | h <;> simp [pressEvent, h]
  simp only [State.btnPoll, answer, State.btnHigh, if_neg noEvent, pressedAfter]

theorem State.btnPoll_low (answer : s.levelAnswer i = some false) (b : Btn) :
    s.btnPoll i b
      = (((s.lineGet i).putBtn i { b with pressed := false }).holdButton
          b.repeatInterval).finishPoll := by
  simp only [State.btnPoll, answer, State.btnLow, pressedAfter]

theorem State.btnPoll_fails (answer : s.levelAnswer i = none) (b : Btn) :
    s.btnPoll i b = (s.lineGet i).pollFault (.btn i) := by
  simp only [State.btnPoll, answer]

/-! ## What each device operation leaves of a button -/

theorem State.btnInit_btns_of_ne {k : Nat} (other : i ≠ k) (s : State) (pin : Pin) (cb : Bool)
    (d : Duration) : (s.btnInit i pin cb d).btns[k]? = s.btns[k]? := by
  rcases s.btnInit_cases i pin cb d with e | e | ⟨level, e⟩ <;> simp [e, other]

theorem State.btnPoll_btns_of_ne {k : Nat} (other : i ≠ k) (s : State) (b : Btn) :
    (s.btnPoll i b).btns[k]? = s.btns[k]? := by
  rcases s.btnPoll_cases i b with e | ⟨-, -, e⟩ | e | e <;> simp [e, other]

@[simp] theorem State.potInit_btns (s : State) (j : Nat) (pin : Pin) (cb : Bool) :
    (s.potInit j pin cb).btns = s.btns := by
  rcases s.potInit_cases j pin cb with e | e | ⟨-, e⟩ | ⟨q, -, e⟩ <;>
    simp [e, State.potConstructed]

@[simp] theorem State.potPoll_btns (s : State) (j : Nat) (p : Pot) :
    (s.potPoll j p).btns = s.btns := by
  rcases s.potPoll_cases j p with e | ⟨q, -, -, -, e⟩ | ⟨q, -, e⟩ <;> simp [e]

@[simp] theorem State.potValue_btns (s : State) (j : Nat) : (s.potValue j).btns = s.btns := by
  obtain ⟨r, e⟩ := s.potValue_cases j
  simp [e]

@[simp] theorem State.startRun_btns (s : State) : s.startRun.btns = s.btns := by
  unfold State.startRun
  split <;> rfl

/-- A button stays as it is, or the operation is one of its own two (spec/44_button.md R227). -/
theorem Effect.btn_cases {op : Instr} (h : Effect s op t) (k : Nat) :
    t.btns[k]? = s.btns[k]? ∨ op = .btnPoll k
      ∨ ∃ pin cb interval, op = .btnInit k pin cb interval := by
  cases h with
  | lcd | lcdInitFault | lcdInitDone | teardown | quit => exact .inl rfl
  | potInit | potValue | potPoll | run => exact .inl (by simp)
  | btnPoll i b =>
    by_cases own : i = k
    · exact .inr (.inl (own ▸ rfl))
    · exact .inl (s.btnPoll_btns_of_ne own b)
  | btnInit i pin cb interval =>
    by_cases own : i = k
    · exact .inr (.inr ⟨pin, cb, interval, own ▸ rfl⟩)
    · exact .inl (s.btnInit_btns_of_ne own pin cb _)

end

/-! ## The obligations on one operation -/

/-- Settles O29. -/
theorem btnInitConstructsTheButton : Obligations.BtnInitConstructsTheButton := by
  intro i pin cb interval level b s constructible atIndex absent inType accepted answer
  refine ⟨by rw [encode, optional_eq_elim], ?_⟩
  rw [exec_btnInit_admitted constructible atIndex absent inType, State.btnInit_read accepted answer,
    State.configured_lineGet, answer]
  simp [State.putBtn, State.register, State.report]

/-- Settles O30: each fault comes before the first write of an element of the block. -/
theorem deviceInitFaultHasNoPartialEffect : Obligations.DeviceInitFaultHasNoPartialEffect := by
  refine ⟨fun i pin cb interval b s constructible atIndex absent inType => ?_,
    fun j pin cb p s constructible atIndex absent => ?_⟩
  · rw [exec_btnInit_admitted constructible atIndex absent inType]
    refine ⟨fun rejected => ?_, fun accepted answer => ?_⟩
    · rw [State.btnInit_rejected rejected]
      rfl
    · rw [State.btnInit_read_fails accepted answer, State.configured_lineGet, answer]
      simp [State.raise, State.report]
  · rw [exec_potInit_admitted constructible atIndex absent]
    refine ⟨fun rejected => ?_, fun accepted mode answer => ?_⟩
    · rw [State.potInit_rejected rejected]
      rfl
    · rw [State.potInit_read_fails accepted mode answer, State.configured_adcRead, answer]
      simp [State.raise, State.report]

/-- Settles O31, clause by clause from what the reading and the button say. -/
theorem btnPollFollowsTheTransitionTable : Obligations.BtnPollFollowsTheTransitionTable := by
  intro i b s pollable atIndex present
  rw [exec_btnPoll_admitted pollable atIndex present]
  obtain ⟨closed, -⟩ := pollable
  refine ⟨rfl, fun answer released callback => ?_, fun answer noWindow => ?_, fun answer => ?_,
    fun answer => ?_⟩
  · rw [State.btnPoll_press answer released callback, State.lineGet_putBtn, answer]
    simp [State.openWindow, State.record, Paused.device, closed]
  · rw [State.btnPoll_high_ends answer noWindow, State.lineGet_putBtn, answer]
  · rw [State.btnPoll_low answer, State.lineGet_putBtn, answer]
    simp [State.holdButton, State.record]
  · rw [State.btnPoll_fails answer, State.lineGet_eq, answer]

/-- Settles O33, from the effects of the operations. -/
theorem onlyItsOwnOperationsWriteAButton : Obligations.OnlyItsOwnOperationsWriteAButton :=
  fun op k s t h written => ((exec_effect op s t h).btn_cases k).resolve_left written

end Sys2Proof.Machine

/-! PROOFS. The windows of a button over a sequence of polls (O32). -/

namespace Sys2Proof.Machine

/-- Between two polls of the host: no window is open and button `i` holds `b`. -/
structure ButtonAtRest (i : Nat) (b : Btn) (s : State) : Prop where
  idle : s.hostIdle
  closed : s.paused = none
  atIndex : s.btns[i]? = some b

section

variable {i : Nat} {b : Btn} {s : State}

/-! ## What a poll is made of keeps the button at rest -/

theorem ButtonAtRest.levels (h : ButtonAtRest i b s) (levels : List (Option Bool)) :
    ButtonAtRest i b { s with levels := levels } := { h with }

theorem ButtonAtRest.lineGet_putBtn (h : ButtonAtRest i b s) (b' : Btn) :
    ButtonAtRest i b' ((s.lineGet i).putBtn i b') where
  idle := by simpa [State.hostIdle] using h.idle
  closed := by simpa using h.closed
  atIndex := by
    obtain ⟨inRange, -⟩ := List.getElem?_eq_some_iff.1 h.atIndex
    simp [inRange]

theorem ButtonAtRest.holdButton (h : ButtonAtRest i b s) (d : Duration) :
    ButtonAtRest i b (s.holdButton d) := { h with }

theorem State.finishPoll_of_inactive (inactive : s.seqActive = false) :
    s.finishPoll = s.report .done :=
  if_neg (ne_true_of_eq_false inactive)

theorem ButtonAtRest.finishPoll (h : ButtonAtRest i b s) : ButtonAtRest i b s.finishPoll := by
  obtain ⟨inactive, -⟩ := h.idle
  rw [State.finishPoll_of_inactive inactive]
  exact { h with }

theorem ButtonAtRest.returned (h : ButtonAtRest i b s) :
    ButtonAtRest i b ((s.openWindow (.btnPoll i)).closeWindow (.btnPoll i)) := by
  have closed : ButtonAtRest i b ((s.openWindow (.btnPoll i)).windowClosed (.btnPoll i)) :=
    { h with closed := rfl }
  exact closed.finishPoll

/-! ## One poll -/

theorem pollOnce_of_ended {level : Bool} {t : State}
    (h : exec (.btnPoll i) { s with levels := [some level] } = .next t) (ended : t.paused = none) :
    pollOnce i s level = t := by
  simp only [pollOnce, h, ended]

theorem pollOnce_of_window {level : Bool} {t : State} {p : Paused}
    (h : exec (.btnPoll i) { s with levels := [some level] } = .next t)
    (window : t.paused = some p) :
    pollOnce i s level = t.closeWindow p := by
  simp only [pollOnce, h, window]

/-- One poll leaves the level read in the latch, and opens a window exactly at a rising edge. -/
theorem ButtonAtRest.pollOnce (h : ButtonAtRest i b s) (present : b.present = true)
    (callback : b.cb = true) (level : Bool) :
    ButtonAtRest i { b with pressed := level } (pollOnce i s level)
      ∧ (pollOnce i s level).trace.count (.cb (.btn i))
        = s.trace.count (.cb (.btn i)) + (if level && !b.pressed then 1 else 0) := by
  have h' := h.levels [some level]
  have polled := exec_btnPoll_admitted (h'.idle.pollable _) h'.atIndex present
  have read := h'.lineGet_putBtn { b with pressed := level }
  cases level with
  | false =>
    rw [State.btnPoll_low rfl] at polled
    have rest := (read.holdButton b.repeatInterval).finishPoll
    rw [pollOnce_of_ended polled rest.closed]
    exact ⟨rest, by simp [State.levelAnswer]⟩
  | true =>
    cases pressed : b.pressed with
    | true =>
      rw [State.btnPoll_high_ends rfl (.inl pressed)] at polled
      have rest := read.finishPoll
      rw [pollOnce_of_ended polled rest.closed]
      exact ⟨rest, by simp [State.levelAnswer]⟩
    | false =>
      rw [State.btnPoll_press rfl pressed callback] at polled
      rw [pollOnce_of_window polled rfl]
      exact ⟨read.returned, by
        simp [State.closeWindow, State.resume, State.levelAnswer, Paused.device]⟩

end

/-- Settles O32, by induction on the levels: each poll begins with the latch the one before left. -/
theorem buttonFiresOncePerRisingEdge : Obligations.ButtonFiresOncePerRisingEdge := by
  intro i b levels s idle closed atIndex present callback
  have rest : ButtonAtRest i b s := ⟨idle, closed, atIndex⟩
  clear idle closed atIndex
  induction levels generalizing b s with
  | nil => rfl
  | cons level levels ih =>
    obtain ⟨rest', fired⟩ := rest.pollOnce present callback level
    rw [List.foldl_cons, ih { b with pressed := level } _ present callback rest', fired,
      risingEdges, Nat.add_assoc]

end Sys2Proof.Machine

/-! PROOFS. The value of a potentiometer at every width (O34, O35). -/

namespace Sys2Proof.Machine

section

variable {c : Config}

/-- `FULL_SCALE` is odd at every width, so that twice an integer is never an odd multiple of it. -/
theorem fullScale_odd (width : 1 ≤ c.adcBits) : Odd (fullScale c) := by
  have even : Even (2 ^ c.adcBits) := (Nat.even_pow).2 ⟨even_two, by omega⟩
  exact Nat.Even.sub_odd Nat.one_le_two_pow even odd_one

theorem fullScale_pos (width : 1 ≤ c.adcBits) : 0 < fullScale c := (fullScale_odd width).pos

/-- The value is at least `k` from `k - 1/2` hundredths of full scale on (R237). -/
theorem le_potQ_iff (width : 1 ≤ c.adcBits) (k raw : Nat) :
    k ≤ potQ c raw ↔ 2 * (k * fullScale c) ≤ 200 * raw + fullScale c := by
  rw [potQ, Nat.le_div_iff_mul_le (Nat.mul_pos two_pos (fullScale_pos width)), Nat.mul_left_comm]

/-- The same as a threshold `T_k` on the sample (R238), half a step moved to the other side. -/
theorem le_potQ_iff_threshold_le (width : 1 ≤ c.adcBits) {k : Nat} (one : 1 ≤ k) (raw : Nat) :
    k ≤ potQ c raw ↔ ((2 * k - 1) * fullScale c + 199) / 200 ≤ raw := by
  have step : fullScale c ≤ k * fullScale c := Nat.le_mul_of_pos_left _ one
  rw [le_potQ_iff width, Nat.sub_mul, Nat.mul_assoc]
  omega

theorem potQ_zero (width : 1 ≤ c.adcBits) : potQ c 0 = 0 :=
  Nat.div_eq_of_lt (by have := fullScale_pos width; omega)

theorem potQ_fullScale (width : 1 ≤ c.adcBits) : potQ c (fullScale c) = 100 :=
  le_antisymm (potQ_le c _ le_rfl) ((le_potQ_iff width _ _).2 (by omega))

theorem two_mul_ne_odd_mul_fullScale (width : 1 ≤ c.adcBits) (m k : Nat) :
    2 * m ≠ (2 * k + 1) * fullScale c := by
  intro tie
  have odd : Odd (2 * m) := tie ▸ (odd_two_mul_add_one k).mul (fullScale_odd width)
  exact Nat.not_even_iff_odd.2 odd (even_two_mul m)

/-- The sample lies less than half a step from its value: rounding gives at most half, and exactly
half would be a tie. -/
theorem two_mul_abs_sub_potQ_lt (width : 1 ≤ c.adcBits) (raw : Nat) :
    2 * |100 * (raw : Int) - potQ c raw * fullScale c| < fullScale c := by
  have lower := (le_potQ_iff width (potQ c raw) raw).1 le_rfl
  have upper := mt (le_potQ_iff width (potQ c raw + 1) raw).2 (Nat.not_succ_le_self _)
  have noTie := two_mul_ne_odd_mul_fullScale width (100 * raw + fullScale c) (potQ c raw)
  rw [Nat.add_mul, Nat.mul_assoc, Nat.one_mul] at noTie
  rw [Nat.add_mul, Nat.one_mul] at upper
  rw [← Int.natCast_mul, Int.abs_eq_natAbs]
  generalize potQ c raw * fullScale c = below at *
  omega

end

/-- Settles O34, the two ends and the thresholds one by one. -/
theorem potValueCrossesAtTheThresholds : Obligations.PotValueCrossesAtTheThresholds := by
  intro c raw width inType
  refine ⟨potQ_le c raw inType, ?_, ?_, fun k one _ => ?_⟩
  · rintro rfl
    exact potQ_zero width
  · rintro rfl
    exact potQ_fullScale width
  · exact le_potQ_iff_threshold_le width one raw

/-- Settles O35: another integer is a whole step away from the value, and the sample less than
half a step. -/
theorem potValueHasNoTies : Obligations.PotValueHasNoTies := by
  intro c raw width
  refine ⟨fun k other => ?_, fun k => ?_⟩
  · have near := two_mul_abs_sub_potQ_lt width raw
    have step : (fullScale c : Int) ≤ |k * fullScale c - potQ c raw * fullScale c| := by
      rw [← sub_mul, abs_mul, Nat.abs_cast]
      exact le_mul_of_one_le_left (Int.natCast_nonneg _) (Int.one_le_abs (sub_ne_zero.2 other))
    have triangle := abs_sub_le (k * fullScale c : Int) (100 * raw) (potQ c raw * fullScale c)
    rw [abs_sub_comm _ (100 * raw : Int)] at triangle
    omega
  · rw [show 200 * raw = 2 * (100 * raw) by omega]
    exact two_mul_ne_odd_mul_fullScale width (100 * raw) k

end Sys2Proof.Machine

/-! PROOFS. The operations on a potentiometer (O36 to O38, O40). -/

namespace Sys2Proof.Machine

section

variable {s t : State} {j : Nat} {p : Pot} {pin : Pin}

/-! ## POT_INIT -/

/-- Under the default mode an accepted pin is configured and the channel read once (D13). -/
theorem State.potInit_read (accepted : s.cfg.pinOk .analog pin = true)
    (mode : s.cfg.potInitMode = .sample) {raw : Nat} (answer : s.sampleAnswer j = some raw)
    (cb : Bool) :
    s.potInit j pin cb
      = ((s.configured .analog pin none).adcRead j).potConstructed j pin cb
          (some (potQ s.cfg raw)) := by
  have answer' : (s.configured .analog pin none).sampleAnswer j = some raw := answer
  simp only [State.potInit, if_pos accepted, mode, answer']

theorem State.potInit_noValue (accepted : s.cfg.pinOk .analog pin = true)
    (mode : s.cfg.potInitMode = .noValue) (j : Nat) (cb : Bool) :
    s.potInit j pin cb = (s.configured .analog pin none).potConstructed j pin cb none := by
  simp only [State.potInit, if_pos accepted, mode]

/-! ## POT_VALUE -/

theorem exec_potValue_admitted (control : s.hostHasControl = true) (atIndex : s.pots[j]? = some p)
    (present : p.present = true) : exec (.potValue j) s = .next (s.potValue j) :=
  (execPotValue_next_iff j s _).2 ⟨control, p, atIndex, present, rfl⟩

theorem State.potValue_read {raw : Nat} (answer : s.sampleAnswer j = some raw) :
    s.potValue j = (s.adcRead j).report (.value (potQ s.cfg raw)) := by
  simp only [State.potValue, answer]

theorem State.potValue_fails (answer : s.sampleAnswer j = none) :
    s.potValue j = (s.adcRead j).raise (.pollFault (.pot j)) := by
  simp only [State.potValue, answer]

/-! ## POT_POLL -/

theorem exec_potPoll_admitted (pollable : s.pollable (.pot j)) (atIndex : s.pots[j]? = some p)
    (present : p.present = true) : exec (.potPoll j) s = .next (s.potPoll j p) :=
  (execPotPoll_next_iff j s _).2 ⟨pollable, p, atIndex, present, rfl⟩

theorem changeEvent_iff (last : Option Nat) (q : Nat) :
    changeEvent last q = true ↔ last ≠ some q := bne_iff_ne

theorem State.potPoll_change {raw : Nat} (answer : s.sampleAnswer j = some raw)
    (changed : p.lastValue ≠ some (potQ s.cfg raw)) (callback : p.cb = true) :
    s.potPoll j p = (s.adcRead j).openWindow (.potPoll j (potQ s.cfg raw)) := by
  have event : (changeEvent p.lastValue (potQ s.cfg raw) && p.cb) = true := by
    rw [(changeEvent_iff _ _).2 changed, callback, Bool.and_self]
  simp only [State.potPoll, answer, State.potRead, if_pos event]

theorem State.potPoll_stores {raw : Nat} (answer : s.sampleAnswer j = some raw)
    (noWindow : p.lastValue = some (potQ s.cfg raw) ∨ p.cb = false) :
    s.potPoll j p = ((s.adcRead j).storeLast j (potQ s.cfg raw)).finishPoll := by
  have noEvent : ¬ (changeEvent p.lastValue (potQ s.cfg raw) && p.cb) = true := by
    rcases noWindow with h | h <;> simp [changeEvent, h]
  simp only [State.potPoll, answer, State.potRead, if_neg noEvent]

/-- Storing `last_value` of a potentiometer that holds `p` writes `p` with the new value. -/
theorem State.storeLast_eq_putPot (atIndex : s.pots[j]? = some p) (q : Nat) :
    s.storeLast j q = s.putPot j { p with lastValue := some q } := by
  rw [State.storeLast, List.modify_eq_set_getElem?, atIndex]
  rfl

/-! ## What each device operation leaves of a potentiometer -/

theorem State.potInit_pots_of_ne {k : Nat} (other : j ≠ k) (s : State) (pin : Pin) (cb : Bool) :
    (s.potInit j pin cb).pots[k]? = s.pots[k]? := by
  rcases s.potInit_cases j pin cb with e | e | ⟨-, e⟩ | ⟨q, -, e⟩ <;>
    simp [e, other, State.potConstructed]

theorem State.potPoll_pots_of_ne {k : Nat} (other : j ≠ k) (s : State) (p : Pot) :
    (s.potPoll j p).pots[k]? = s.pots[k]? := by
  rcases s.potPoll_cases j p with e | ⟨q, -, -, -, e⟩ | ⟨q, -, e⟩ <;> simp [e, other]

@[simp] theorem State.potValue_pots (s : State) (j : Nat) : (s.potValue j).pots = s.pots := by
  obtain ⟨r, e⟩ := s.potValue_cases j
  simp [e]

@[simp] theorem State.btnInit_pots (s : State) (i : Nat) (pin : Pin) (cb : Bool) (d : Duration) :
    (s.btnInit i pin cb d).pots = s.pots := by
  rcases s.btnInit_cases i pin cb d with e | e | ⟨level, e⟩ <;> simp [e]

@[simp] theorem State.btnPoll_pots (s : State) (i : Nat) (b : Btn) :
    (s.btnPoll i b).pots = s.pots := by
  rcases s.btnPoll_cases i b with e | ⟨-, -, e⟩ | e | e <;> simp [e]

@[simp] theorem State.startRun_pots (s : State) : s.startRun.pots = s.pots := by
  unfold State.startRun
  split <;> rfl

/-- A potentiometer stays as it is, or the operation is one of its own two
(spec/45_pot.md R254). -/
theorem Effect.pot_cases {op : Instr} (h : Effect s op t) (k : Nat) :
    t.pots[k]? = s.pots[k]? ∨ op = .potPoll k ∨ ∃ pin cb, op = .potInit k pin cb := by
  cases h with
  | lcd | lcdInitFault | lcdInitDone | teardown | quit => exact .inl rfl
  | btnInit | btnPoll | potValue | run => exact .inl (by simp)
  | potPoll j p =>
    by_cases own : j = k
    · exact .inr (.inl (own ▸ rfl))
    · exact .inl (s.potPoll_pots_of_ne own p)
  | potInit j pin cb =>
    by_cases own : j = k
    · exact .inr (.inr ⟨pin, cb, own ▸ rfl⟩)
    · exact .inl (s.potInit_pots_of_ne own pin cb)

end

/-! ## The obligations on one operation -/

/-- Settles O36, mode by mode. -/
theorem potInitConstructsThePotentiometer : Obligations.PotInitConstructsThePotentiometer := by
  intro j pin cb p s constructible atIndex absent accepted
  rw [exec_potInit_admitted constructible atIndex absent]
  refine ⟨rfl, fun raw mode answer => ?_, fun mode => ?_⟩
  · rw [State.potInit_read accepted mode answer, State.configured_adcRead, answer]
    simp [State.potConstructed, State.putPot, State.register, State.report]
  · rw [State.potInit_noValue accepted mode]
    rfl

/-- Settles O37: one reading, one reply. -/
theorem potValueReportsAFreshSample : Obligations.PotValueReportsAFreshSample := by
  intro j p s control atIndex present
  rw [exec_potValue_admitted control atIndex present]
  refine ⟨rfl, fun raw answer => ?_, fun answer => ?_⟩
  · rw [State.potValue_read answer, State.adcRead_eq, answer, potQ, fullScale]
    simp [State.report]
  · rw [State.potValue_fails answer, State.adcRead_eq, answer]
    simp [State.raise, State.report]

/-- Settles O38, clause by clause from what the reading and the potentiometer say. -/
theorem potPollDetectsChanges : Obligations.PotPollDetectsChanges := by
  intro j raw p s pollable atIndex present answer
  rw [exec_potPoll_admitted pollable atIndex present]
  obtain ⟨closed, -⟩ := pollable
  refine ⟨rfl, fun changed callback => ?_, fun noWindow => ?_⟩
  · rw [State.potPoll_change answer changed callback, State.adcRead_eq, answer]
    simp [State.openWindow, State.record, Paused.device, closed]
  · rw [State.potPoll_stores answer noWindow,
      State.storeLast_eq_putPot (by rwa [State.adcRead_pots]), State.adcRead_eq, answer]
    simp [State.putPot]

/-- Settles O40, from the effects of the operations. -/
theorem onlyItsOwnOperationsWriteAPotentiometer :
    Obligations.OnlyItsOwnOperationsWriteAPotentiometer :=
  fun op k s t h written => ((exec_effect op s t h).pot_cases k).resolve_left written

end Sys2Proof.Machine

/-! PROOFS. The windows of a potentiometer over a sequence of polls (O39). -/

namespace Sys2Proof.Machine

section

variable {j raw : Nat} {p : Pot} {s : State}

/-! ## The answer, and the return to the poll -/

theorem State.sampleAnswer_of_inType (inType : raw ≤ fullScale s.cfg) (j : Nat) :
    State.sampleAnswer { s with samples := [some raw] } j = some raw :=
  if_pos inType

/-- The return to a POT_POLL that the host issued: its value is stored and the poll is done. -/
theorem State.closeWindow_potPoll (atIndex : s.pots[j]? = some p) (inactive : s.seqActive = false)
    (q : Nat) :
    s.closeWindow (.potPoll j q)
      = { s with
          trace := s.trace ++ [.cbDone (.pot j)]
          cbDepth := s.cbDepth - 1
          paused := none
          pots := s.pots.set j { p with lastValue := some q }
          replies := s.replies ++ [.done] } := by
  have inactive' : ((s.windowClosed (.potPoll j q)).storeLast j q).seqActive = false := inactive
  have atIndex' : (s.windowClosed (.potPoll j q)).pots[j]? = some p := atIndex
  rw [State.closeWindow_eq, State.resume, State.finishPoll_of_inactive inactive',
    State.storeLast_eq_putPot atIndex']
  rfl

/-! ## One poll -/

theorem samplePoll_of_ended {t : State}
    (h : exec (.potPoll j) { s with samples := [some raw] } = .next t) (ended : t.paused = none) :
    samplePoll j s raw = t := by
  simp only [samplePoll, h, ended]

theorem samplePoll_of_window {t : State} {w : Paused}
    (h : exec (.potPoll j) { s with samples := [some raw] } = .next t)
    (window : t.paused = some w) :
    samplePoll j s raw = t.closeWindow w := by
  simp only [samplePoll, h, window]

/-- One poll by an idle host whose callback returns at once: the value is stored, and exactly a
change of it leaves an opened and closed window in the trace (spec/45_pot.md R241, R242). -/
theorem samplePoll_eq (idle : s.hostIdle) (closed : s.paused = none)
    (atIndex : s.pots[j]? = some p) (present : p.present = true) (callback : p.cb = true)
    (inType : raw ≤ fullScale s.cfg) :
    samplePoll j s raw
      = { s with
          samples := []
          trace := s.trace ++ .adc j (some raw) ::
            if p.lastValue ≠ some (potQ s.cfg raw) then [.cb (.pot j), .cbDone (.pot j)] else []
          pots := s.pots.set j { p with lastValue := some (potQ s.cfg raw) }
          replies := s.replies ++ [.done] } := by
  obtain ⟨-, opens, stores⟩ := potPollDetectsChanges j raw p { s with samples := [some raw] }
    (idle.pollable _) atIndex present (s.sampleAnswer_of_inType inType j)
  obtain ⟨inactive, depth⟩ := idle
  by_cases same : p.lastValue = some (potQ s.cfg raw)
  · have polled := stores (.inl same)
    rw [State.finishPoll_of_inactive (by simpa using inactive)] at polled
    rw [samplePoll_of_ended polled (by simpa using closed), if_neg (not_not_intro same)]
    rfl
  · rw [samplePoll_of_window (opens same callback) rfl,
      State.closeWindow_potPoll (p := p) (by simpa using atIndex) (by simpa using inactive),
      if_pos same]
    simp [State.takeSample, closed, depth]

end

/-- Settles O39, by induction on the samples: each poll begins with the value the one before
stored. -/
theorem potentiometerFiresOncePerChange : Obligations.PotentiometerFiresOncePerChange := by
  intro j p samples
  induction samples generalizing p with
  | nil => exact fun _ _ _ _ _ _ _ => rfl
  | cons raw samples ih =>
    intro s idle closed atIndex present callback inType
    obtain ⟨rawInType, restInType⟩ := List.forall_mem_cons.1 inType
    obtain ⟨inRange, -⟩ := List.getElem?_eq_some_iff.1 atIndex
    rw [List.foldl_cons, samplePoll_eq idle closed atIndex present callback rawInType]
    refine (ih { p with lastValue := some (potQ s.cfg raw) } _ ?_ ?_ ?_ present callback ?_).trans
      ?_
    · exact idle
    · exact closed
    · exact List.getElem?_set_self inRange
    · exact restInType
    · rw [List.map_cons, valueChanges]
      split <;> simp [Nat.add_assoc]

end Sys2Proof.Machine

/-! PROOFS. The sequencer: RUN and QUIT (O44, O48), the end of a poll (O45), and the pass over the
registered devices (O7, O46, O47). -/

namespace Sys2Proof.Machine

/-! ## RUN and QUIT -/

/-- Settles O44, by the two branches of `startRun`. -/
theorem runBeginsOrReturnsAtOnce : Obligations.RunBeginsOrReturnsAtOnce := by
  refine ⟨rfl, fun s idle => ?_⟩
  have started : exec .run s = .next s.startRun := (execRun_next_iff s _).2 ⟨idle, rfl⟩
  refine ⟨fun running => ?_, fun stopped => ?_⟩
  · rw [started, State.startRun, if_pos running]
  · rw [started, State.startRun, if_neg (by simp [stopped]), State.report]

/-- Settles O48, from the closed form of the shutdown actions. -/
theorem quitRunsTheShutdownActions : Obligations.QuitRunsTheShutdownActions :=
  fun s control => ⟨rfl, (execQuit_next_iff s _).2 ⟨control, rfl⟩⟩

/-! ## The end of a poll -/

/-- Settles O45, from the four ways a poll can end. -/
theorem pollEndAdvancesThePass : Obligations.PollEndAdvancesThePass := by
  intro s
  rcases s.finishPoll_cases with ⟨active, inner, e⟩ | ⟨active, last, running, e⟩ |
    ⟨active, last, stopped, e⟩ | ⟨inactive, e⟩
  · rw [e, if_pos active, if_pos inner]
  · rw [e, if_pos active, if_neg last.not_gt, if_pos running]
  · rw [e, if_pos active, if_neg last.not_gt, if_neg (by simp [stopped])]
  · rw [e, if_neg (by simp [inactive])]

section

variable {s t u : State}

/-- When RUN goes on after a poll, it goes on with the next device, or with the first one. -/
theorem State.finishPoll_passIdx (active : s.finishPoll.seqActive = true) :
    s.finishPoll.passIdx = if s.passIdx + 1 < s.registry.length then s.passIdx + 1 else 0 := by
  rcases s.finishPoll_cases with ⟨-, inner, e⟩ | ⟨-, last, -, e⟩ | ⟨-, -, -, e⟩ | ⟨inactive, e⟩
  · rw [e, if_pos inner]
  · rw [e, if_neg last.not_gt]
  · simp [e] at active
  · simp [e, inactive] at active

theorem State.finishPoll_ends_run (active : s.seqActive = true)
    (ended : s.finishPoll.seqActive = false) :
    s.running = false ∧ s.registry.length ≤ s.passIdx + 1 := by
  rcases s.finishPoll_cases with ⟨-, -, e⟩ | ⟨-, -, -, e⟩ | ⟨-, last, stopped, -⟩ | ⟨inactive, -⟩
  · simp [e, active] at ended
  · simp [e, active] at ended
  · exact ⟨stopped, last⟩
  · simp [inactive] at active

/-- With no device at `pass_idx` the pass ends as it does after its last poll. -/
theorem State.passBoundary_eq_finishPoll (active : s.seqActive = true)
    (beyond : s.registry.length ≤ s.passIdx) : s.passBoundary = s.finishPoll := by
  rw [State.finishPoll, if_pos active, State.advancePass, if_neg (by omega)]

/-- A poll's fault during RUN is absorbed: the poll ends like any other
(spec/46_sequencer.md R264). -/
theorem State.pollFault_of_active (active : s.seqActive = true) (d : Device) :
    s.pollFault d = s.finishPoll := by
  rw [State.pollFault_eq, if_pos active]

/-! ## How the pass goes on -/

/-- `u` agrees with `s` in everything that decides how the pass goes on. -/
structure SamePass (s u : State) : Prop where
  registry : u.registry = s.registry
  running : u.running = s.running
  active : u.seqActive = s.seqActive
  index : u.passIdx = s.passIdx
  depth : u.cbDepth = s.cbDepth

/-- The pass of `s` goes on to `t`: a window opens over the poll of the device it is at, or that
poll ends. -/
def PassGoesOn (s t : State) : Prop :=
  ∃ u, SamePass s u ∧ ((∃ p, t = u.openWindow p) ∨ t = u.finishPoll)

theorem SamePass.opens (same : SamePass s u) (p : Paused) :
    PassGoesOn s (u.openWindow p) := ⟨u, same, .inl ⟨p, rfl⟩⟩

theorem SamePass.ends (same : SamePass s u) : PassGoesOn s u.finishPoll :=
  ⟨u, same, .inr rfl⟩

theorem SamePass.refl (s : State) : SamePass s s := ⟨rfl, rfl, rfl, rfl, rfl⟩

theorem SamePass.lineGet (s : State) (i : Nat) : SamePass s (s.lineGet i) := by
  constructor <;> simp

theorem SamePass.adcRead (s : State) (j : Nat) : SamePass s (s.adcRead j) := by
  constructor <;> simp

theorem SamePass.putBtn (same : SamePass s u) (i : Nat) (b : Btn) :
    SamePass s (u.putBtn i b) := { same with }

theorem SamePass.holdButton (same : SamePass s u) (d : Duration) :
    SamePass s (u.holdButton d) := { same with }

theorem SamePass.storeLast (same : SamePass s u) (j q : Nat) :
    SamePass s (u.storeLast j q) := { same with }

theorem PassGoesOn.btnPoll (active : s.seqActive = true) (i : Nat) (b : Btn) :
    PassGoesOn s (s.btnPoll i b) := by
  have read := SamePass.lineGet s i
  rcases s.btnPoll_cases i b with e | ⟨-, -, e⟩ | e | e <;> rw [e]
  · rw [State.pollFault_of_active (read.active.trans active)]
    exact read.ends
  · exact (read.putBtn i _).opens _
  · exact (read.putBtn i _).ends
  · exact ((read.putBtn i _).holdButton _).ends

theorem PassGoesOn.potPoll (active : s.seqActive = true) (j : Nat) (p : Pot) :
    PassGoesOn s (s.potPoll j p) := by
  have read := SamePass.adcRead s j
  rcases s.potPoll_cases j p with e | ⟨q, -, -, -, e⟩ | ⟨q, -, e⟩ <;> rw [e]
  · rw [State.pollFault_of_active (read.active.trans active)]
    exact read.ends
  · exact read.opens _
  · exact (read.storeLast j q).ends

/-- The return from a window ends the paused poll. -/
theorem PassGoesOn.closeWindow (s : State) (p : Paused) :
    PassGoesOn (s.windowClosed p) (s.closeWindow p) := by
  cases p with
  | btnPoll i => exact (SamePass.refl _).ends
  | potPoll j q => exact ((SamePass.refl _).storeLast j q).ends

theorem PassGoesOn.passBoundary (active : s.seqActive = true)
    (beyond : s.registry.length ≤ s.passIdx) : PassGoesOn s s.passBoundary := by
  rw [State.passBoundary_eq_finishPoll active beyond]
  exact (SamePass.refl s).ends

theorem PassGoesOn.registry (h : PassGoesOn s t) : t.registry = s.registry := by
  obtain ⟨u, same, ⟨p, rfl⟩ | rfl⟩ := h
  · exact same.registry
  · exact u.finishPoll_registry.trans same.registry

theorem PassGoesOn.depth_and_index (h : PassGoesOn s t) (closed : s.cbDepth = 0)
    (still : t.seqActive = true) :
    (t.cbDepth = 1 ∧ t.passIdx = s.passIdx)
      ∨ (t.cbDepth = 0
        ∧ t.passIdx = if s.passIdx + 1 < s.registry.length then s.passIdx + 1 else 0) := by
  obtain ⟨u, same, ⟨p, rfl⟩ | rfl⟩ := h
  · exact .inl ⟨by simp [same.depth, closed], same.index⟩
  · refine .inr ⟨by simp [same.depth, closed], ?_⟩
    rw [State.finishPoll_passIdx still, same.index, same.registry]

theorem PassGoesOn.ends_run (h : PassGoesOn s t) (active : s.seqActive = true)
    (ended : t.seqActive = false) : s.running = false ∧ s.registry.length ≤ s.passIdx + 1 := by
  obtain ⟨u, same, ⟨p, rfl⟩ | rfl⟩ := h
  · simp [same.active, active] at ended
  · have := State.finishPoll_ends_run (same.active.trans active) ended
    rwa [same.running, same.registry, same.index] at this

/-! ## The step during RUN -/

/-- The step of a sequencing state is the poll of the device at `pass_idx`. -/
theorem step_of_device (sequencing : s.sequencing) {d : Device}
    (current : s.registry[s.passIdx]? = some d) : step s = exec (pollOf d) s := by
  rw [step_of_sequencing s sequencing, sequencerStep, current]

/-- No operation admitted inside a callback window begins or ends RUN
(spec/60_exceptions.md R297). -/
theorem Effect.seqActive_of_window {i : Instr} (h : Effect s i t) (window : s.cbDepth ≠ 0) :
    t.seqActive = s.seqActive := by
  cases h with
  | lcd | teardown | quit => rfl
  | potValue j =>
    obtain ⟨r, e⟩ := s.potValue_cases j
    simp [e]
  | btnPoll _ _ pollable | potPoll _ _ pollable => exact absurd pollable.1 window
  | lcdInitFault _ _ _ _ constructible | lcdInitDone _ _ constructible
  | btnInit _ _ _ _ constructible | potInit _ _ _ constructible =>
    exact absurd constructible.1.2 window
  | run idle => exact absurd idle.2 window

theorem exec_pollOf_goesOn (active : s.seqActive = true) {d : Device}
    (h : exec (pollOf d) s = .next t) : PassGoesOn s t := by
  cases d with
  | btn i =>
    obtain ⟨-, b, -, -, rfl⟩ := (execBtnPoll_next_iff i s t).1 h
    exact .btnPoll active i b
  | pot j =>
    obtain ⟨-, p, -, -, rfl⟩ := (execPotPoll_next_iff j s t).1 h
    exact .potPoll active j p

theorem step_goesOn_of_sequencing (sequencing : s.sequencing) (h : step s = .next t) :
    PassGoesOn s t := by
  cases current : s.registry[s.passIdx]? with
  | some d => exact exec_pollOf_goesOn sequencing.1 (step_of_device sequencing current ▸ h)
  | none =>
    rw [step_of_sequencing s sequencing, sequencerStep, current, next_eq_iff] at h
    exact h ▸ .passBoundary sequencing.1 (List.getElem?_eq_none_iff.1 current)

end

/-- Settles O7, for a button and for a potentiometer. -/
theorem stepPollsTheDeviceAtPassIndex : Obligations.StepPollsTheDeviceAtPassIndex :=
  fun _ sequencing => ⟨fun _ current => step_of_device sequencing current,
    fun _ current => step_of_device sequencing current⟩

/-- Settles O46: every step of a sequencing state is one poll of the pass, or its empty end. -/
theorem passesPollInRegistrationOrder : Obligations.PassesPollInRegistrationOrder := by
  intro s t sequencing h still
  have goesOn := step_goesOn_of_sequencing sequencing h
  exact ⟨goesOn.registry, goesOn.depth_and_index sequencing.2.1 still⟩

/-- Settles O47: only the end of a poll, or of an empty pass, can end RUN. -/
theorem runReturnsOnlyAtAPassBoundary : Obligations.RunReturnsOnlyAtAPassBoundary := by
  intro s t active noReset h ended
  by_cases closed : s.cbDepth = 0
  · exact (step_goesOn_of_sequencing ⟨active, closed, noReset⟩ h).ends_run active ended
  · obtain ⟨rest, rfl | ⟨i, he⟩ | ⟨p, -, rfl⟩ | ⟨noControl, -⟩⟩ := step_cases_of_no_reset h noReset
    · simp [active] at ended
    · have still : t.seqActive = true := (he.seqActive_of_window closed).trans active
      simp [still] at ended
    · exact (PassGoesOn.closeWindow { s with pending := rest } p).ends_run active ended
    · exact absurd (s.hostHasControl_eq_false_iff.1 noControl).2 closed

end Sys2Proof.Machine

/-! PROOFS. The callback window: its return, its failure and what it refuses (O41, O43, O52). -/

namespace Sys2Proof.Machine

section

variable {s : State}

/-! ## The host in control -/

theorem State.hasControl_of_window (window : s.cbDepth ≠ 0) : s.hostHasControl = true :=
  s.hostHasControl_iff.2 (.inr window)

/-- A host in control has its next action taken off the list and performed. -/
theorem step_of_pending (control : s.hostHasControl = true) {a : HostAction}
    {rest : List HostAction} (presented : s.pending = a :: rest) :
    step s = performPending a { s with pending := rest } := by
  cases a with
  | blockReset => exact step_of_blockReset presented
  | word | callbackReturn | callbackFail => simp [step, nextStep, presented, control]

/-! ## The end of a callback -/

theorem callbackReturn_of_paused {p : Paused} (paused : s.paused = some p) :
    callbackReturn s = .next (s.closeWindow p) := by
  simp only [callbackReturn, paused]

theorem callbackFail_of_paused {p : Paused} (paused : s.paused = some p) :
    callbackFail s = .fault (.callbackFailed p.device) := by
  simp only [callbackFail, paused]

/-- Windows do not nest: closing the one that is open leaves none
(spec/60_exceptions.md R299). -/
theorem State.windowClosed_of_depth_one (depth : s.cbDepth = 1) (p : Paused) :
    s.windowClosed p
      = { s with trace := s.trace ++ [.cbDone p.device], cbDepth := 0, paused := none } := by
  simp [State.windowClosed, State.record, depth]

/-! ## Admission inside a window -/

theorem whenIdle_of_window (window : s.cbDepth ≠ 0) (k : Result) :
    whenIdle s k = .refused .insideWindow := if_pos window

theorem whenConstruction_of_window (window : s.cbDepth ≠ 0) (k : Result) :
    whenConstruction s k = .refused .insideWindow := whenIdle_of_window window _

theorem whenPoll_of_window (window : s.cbDepth ≠ 0) (d : Device) (k : Result) :
    whenPoll s d k = .refused .insideWindow := if_pos window

end

/-- Settles O41: the step closes the window, and the rest of the paused poll is its `resume`. -/
theorem callbackReturnResumesThePoll : Obligations.CallbackReturnResumesThePoll := by
  intro rest s depth presented
  have control : s.hostHasControl = true := State.hasControl_of_window (by simp [depth])
  have returned (p : Paused) (paused : s.paused = some p) : step s = .next (State.resume
      { s with
        pending := rest
        trace := s.trace ++ [.cbDone p.device]
        cbDepth := 0
        paused := none } p) := by
    have closed := State.windowClosed_of_depth_one (s := { s with pending := rest }) depth p
    rw [step_of_pending control presented, ← closed, ← State.closeWindow_eq]
    exact callbackReturn_of_paused paused
  exact ⟨fun i => returned (.btnPoll i), fun j q => returned (.potPoll j q)⟩

/-- Settles O43. -/
theorem failingCallbackStopsTheMachine : Obligations.FailingCallbackStopsTheMachine := by
  intro p rest s window paused presented
  rw [step_of_pending (State.hasControl_of_window window) presented]
  exact callbackFail_of_paused paused

/-- Settles O52: the window is the first thing that each of the three admissions looks at. -/
theorem windowRefusesPollsAndConstructions : Obligations.WindowRefusesPollsAndConstructions := by
  intro s k pin cb pins text interval window i hi
  simp only [List.mem_cons, List.not_mem_nil, or_false] at hi
  obtain rfl | rfl | rfl | rfl | rfl | rfl := hi
  · exact whenIdle_of_window window _
  · exact whenPoll_of_window window (.btn k) _
  · exact whenPoll_of_window window (.pot k) _
  · exact whenConstruction_of_window window _
  · exact whenConstruction_of_window window _
  · exact whenConstruction_of_window window _

end Sys2Proof.Machine

/-! PROOFS. The polls whose read fails (O42). -/

namespace Sys2Proof.Machine

section

variable {s : State} {i j : Nat}

theorem State.pollFault_of_inactive (inactive : s.seqActive = false) (d : Device) :
    s.pollFault d = { s with replies := s.replies ++ [.failed (.pollFault d)] } := by
  rw [State.pollFault_eq, if_neg (ne_true_of_eq_false inactive)]

/-- RUN polls the device it is at. -/
theorem State.sequencing.pollable (sequencing : s.sequencing) {d : Device}
    (current : s.registry[s.passIdx]? = some d) : s.pollable d :=
  ⟨sequencing.2.1, fun _ => current⟩

theorem State.potPoll_fails (answer : s.sampleAnswer j = none) (p : Pot) :
    s.potPoll j p = (s.adcRead j).pollFault (.pot j) := by
  simp only [State.potPoll, answer]

/-- Whoever issued the BTN_POLL, its failed read is recorded and its fault taken. -/
theorem exec_btnPoll_fails (pollable : s.pollable (.btn i)) {b : Btn}
    (atIndex : s.btns[i]? = some b) (present : b.present = true)
    (answer : s.levelAnswer i = none) :
    exec (.btnPoll i) s
      = .next (State.pollFault { s.takeLevel with trace := s.trace ++ [.get i none] } (.btn i)) := by
  rw [exec_btnPoll_admitted pollable atIndex present, State.btnPoll_fails answer, State.lineGet_eq,
    answer]

theorem exec_potPoll_fails (pollable : s.pollable (.pot j)) {p : Pot}
    (atIndex : s.pots[j]? = some p) (present : p.present = true)
    (answer : s.sampleAnswer j = none) :
    exec (.potPoll j) s
      = .next (State.pollFault { s.takeSample with trace := s.trace ++ [.adc j none] } (.pot j)) := by
  rw [exec_potPoll_admitted pollable atIndex present, State.potPoll_fails answer, State.adcRead_eq,
    answer]

end

/-- Settles O42: the fault is reported to the host at idle, and in RUN the poll ends like any
other. -/
theorem failingPollChangesNothing : Obligations.FailingPollChangesNothing := by
  refine ⟨fun s idle => ⟨fun i b atIndex present answer => ?_, fun j p atIndex present answer => ?_⟩,
    fun s sequencing => ⟨fun i b current atIndex present answer => ?_,
      fun j p current atIndex present answer => ?_⟩⟩
  · rw [exec_btnPoll_fails (idle.pollable _) atIndex present answer,
      State.pollFault_of_inactive (by simpa using idle.1)]
    simp
  · rw [exec_potPoll_fails (idle.pollable _) atIndex present answer,
      State.pollFault_of_inactive (by simpa using idle.1)]
    simp
  · rw [step_of_device sequencing current, pollOf,
      exec_btnPoll_fails (sequencing.pollable current) atIndex present answer,
      State.pollFault_of_active (by simpa using sequencing.1)]
  · rw [step_of_device sequencing current, pollOf,
      exec_potPoll_fails (sequencing.pollable current) atIndex present answer,
      State.pollFault_of_active (by simpa using sequencing.1)]

end Sys2Proof.Machine

/-! PROOFS. The least durations of the LCD operations (O60). -/

namespace Sys2Proof.Machine

/-! ## The least duration of frames -/

theorem leastDuration_append (es es' : List Entry) :
    leastDuration (es ++ es') = leastDuration es + leastDuration es' := by
  fun_induction leastDuration es with
  | case1 => exact (zero_add _).symm
  | case2 t rest ih => rw [List.cons_append, leastDuration, ih, add_assoc]
  | case3 _ _ rest ih | case4 _ _ rest ih | case5 _ _ rest ih | case6 _ _ _ rest ih
  | case7 _ rest ih | case8 _ rest ih => exact ih

/-- The only wait of a frame is its enable hold. -/
theorem leastDuration_frameEntries (tEh : Duration) (rs : Bool) (b : Byte) :
    leastDuration (frameEntries tEh rs b) = tEh := add_zero tEh

/-- `n` frames take at least `n` times `T_EH` (spec/70_reset_and_hazards.md R346). -/
theorem leastDuration_afterFrames (s : State) {ws : List (Bool × Byte)} {n : Nat}
    (length : ws.length = n) :
    leastDuration (s.afterFrames ws).trace = leastDuration s.trace + n * s.cfg.tEh := by
  subst length
  rw [State.afterFrames, leastDuration_append, add_right_inj]
  induction ws with
  | nil => simp [leastDuration]
  | cons w ws ih =>
    rw [List.flatMap_cons, leastDuration_append, leastDuration_frameEntries, ih, List.length_cons]
    push_cast
    ring

/-- Every shutdown action is a TEARDOWN, which sends two frames. -/
theorem shutdownFrames_length (as : List Action) : (shutdownFrames as).length = 2 * as.length := by
  induction as with
  | nil => rfl
  | cons a as ih => cases a; simpa [shutdownFrames, Nat.mul_add] using ih

theorem leastDuration_sendByte {rs : Bool} {b : Int} {s t : State}
    (h : sendByte rs b s = .next t) :
    leastDuration t.trace = leastDuration s.trace + s.cfg.tEh := by
  obtain ⟨-, -, -, rfl⟩ := (sendByte_next_iff rs b s t).1 h
  simpa using leastDuration_afterFrames s (ws := [(rs, byteOf b)]) rfl

/-- Settles O60: each operation's frames are those of its closed form, to be counted. -/
theorem leastDurationsOfLcdOperations : Obligations.LeastDurationsOfLcdOperations := by
  intro s t b n text
  refine ⟨?_, fun h => ?_, fun h => ?_, fun h => ?_, fun h => ?_⟩
  · rintro (h | h) <;> exact leastDuration_sendByte h
  · obtain ⟨-, -, -, rfl⟩ := (execWrite_next_iff text s t).1 h
    exact leastDuration_afterFrames s (List.length_map _)
  · obtain ⟨-, -, rfl⟩ := (execMoveCursor_next_iff n s t).1 h
    exact leastDuration_afterFrames s List.length_replicate
  · obtain ⟨-, -, rfl⟩ := (execNewLine_next_iff s t).1 h
    rw [s.newLine_eq_afterFrames]
    exact leastDuration_afterFrames s List.length_replicate
  · obtain ⟨-, rfl⟩ := (execQuit_next_iff s t).1 h
    simpa using leastDuration_afterFrames s (shutdownFrames_length s.shutdownActions)

end Sys2Proof.Machine
